-- ==== Sys2Proof/Word.lean ====
section
/-! DEFINITION. The words of the machine: register and memory words, register numbers, program slots. -/

namespace Sys2Proof

/-- The contents of a general register (10_state.md R16). -/
abbrev Word := BitVec 64

/-- The operand of a 32-bit operation, and the `imm` field (30_encoding.md R52). -/
abbrev Word32 := BitVec 32

/-- One byte of data memory or of program text. -/
abbrev Byte := BitVec 8

/-- A register number: r0 to r10 exist, 11 to 15 name no register (10_state.md R16, 30_encoding.md R64). -/
abbrev Reg := Fin 11

/-- One 64-bit slot of program text as the host stores it: bytes b0 (lowest address) to b7
(30_encoding.md R49). -/
structure Slot where
  b0 : Byte
  b1 : Byte
  b2 : Byte
  b3 : Byte
  b4 : Byte
  b5 : Byte
  b6 : Byte
  b7 : Byte
deriving DecidableEq, Repr, Inhabited

/-- A slot of eight zero bytes. -/
abbrev Slot.zero : Slot := ⟨0, 0, 0, 0, 0, 0, 0, 0⟩

end Sys2Proof
end

