-- ==== Sys2Proof/Config.lean ====
section
/-! DEFINITION. What an implementation fixes for a run (the parameters of 00_scope.md R6), as plain data,
and three free values, constants without a body (the fourth, what an undefined helper does, stands in
Machine/State.lean, where the faults are). -/

namespace Sys2Proof

/-- `HOST_ENDIAN` (00_scope.md R6, 20_memory.md R32, R33). -/
inductive HostEndian where
  | little
  | big
deriving DecidableEq, Repr, Inhabited

/-- `MISALIGNED`: what a misaligned load or store does (20_memory.md R39). -/
inductive Misaligned where
  | fault
  | allow
deriving DecidableEq, Repr, Inhabited

/-- The optional members of `SUPPORTED_GROUPS`. `base32` is always a member and `packet` never is
(00_scope.md R6, R7; 46_legacy_packet.md R278). -/
structure Groups where
  base64 : Bool
  atomic32 : Bool
  atomic64 : Bool
  divmul32 : Bool
  divmul64 : Bool
deriving DecidableEq, Repr, Inhabited

/-- `SDIV_OVERFLOW`: quotient and remainder of the most negative value by -1, for ALU64 and for ALU
(40_alu.md R75). Both operands are fixed in that case, so the function is four values. -/
structure SdivOverflow where
  quot64 : Word
  rem64 : Word
  quot32 : Word32
  rem32 : Word32
deriving DecidableEq, Repr, Inhabited

/-- The kinds of a data access (60_exceptions.md R287, `MemoryFault`). -/
inductive AccessKind where
  | read
  | write
  | atomic
deriving DecidableEq, Repr, Inhabited

/-- The reasons of a `MemoryFault` (60_exceptions.md R287, R291). -/
inductive AccessReason where
  | misaligned
  | notAdmitted
deriving DecidableEq, Repr, Inhabited

/-- The arguments that `MemoryFault` records: address, size, kind, reason (60_exceptions.md R287). -/
structure AccessFault where
  addr : Word
  size : Nat
  kind : AccessKind
  reason : AccessReason
deriving DecidableEq, Repr, Inhabited

/-- One rule of what `MEM` admits (20_memory.md R40): accesses of `size` bytes that start at an address from
`first` to `last`, of the kinds marked. A list of such rules can say every predicate on address, size and kind. -/
structure Admission where
  first : Nat
  last : Nat
  size : Nat
  read : Bool
  write : Bool
  atomic : Bool
deriving DecidableEq, Repr, Inhabited

/-- A region of data memory, the bytes `base` to `base + size - 1` (20_memory.md R47). -/
structure Region where
  base : Nat
  size : Nat
deriving DecidableEq, Repr, Inhabited

/-- Which name space a helper identifier belongs to: static IDs (`call_helper`) or BTF IDs (`call_btf`)
(42_jump.md R212, R215). -/
inductive HelperKind where
  | static
  | btf
deriving DecidableEq, Repr, Inhabited

/-- The parameters of 00_scope.md R6 except `PROGRAM`, `ENTRY_REGS`, `HELPERS`, `BTF_HELPERS` and the bytes of
`MEM`, which the state holds. `admissions` is `admits` of `MEM`, `shared` the regions that `MEM` marks shared
(20_memory.md R40, R47). Each platform function is a finite partial function, written as its graph; the first
entry counts. -/
structure Params where
  hostEndian : HostEndian
  groups : Groups
  misaligned : Misaligned
  maxCallDepth : Nat
  stackSize : Word
  r10ReadOnly : Bool
  strictReserved : Bool
  sdivOverflow : SdivOverflow
  mapByFd : List (Word32 × Word)
  mapByIdx : List (Word32 × Word)
  mapVal : List (Word × Word)
  varAddr : List (Word32 × Word)
  codeAddr : List ((Nat × Word32) × Word)
  admissions : List Admission
  shared : List Region
deriving DecidableEq, Repr, Inhabited

namespace Config

/-- FREE VALUE: what a byte of data memory holds that no agent has written, by address
(20_memory.md R36, R41; log 8). -/
opaque unwrittenByte : Nat → Byte

/-- FREE VALUE: the sequence of the values that reads of shared regions return, by the number of values drawn
before (20_memory.md R47; log 9). -/
opaque oracleValue : Nat → Word

/-- FREE VALUE: what a byte of a shared region holds during a helper call, by the number of helper calls before and
by address (20_memory.md R47, 70_reset_and_hazards.md R313, R314; log 33). -/
opaque snapshotByte : Nat → Nat → Byte

end Config

end Sys2Proof
end

