-- ==== Sys2Proof/Machine/Defaults.lean ====
section
/-! DEFINITION. The default values of the parameters (00_scope.md R6) and the register values of the reset
state. -/

namespace Sys2Proof.Machine

/-- The default of `SUPPORTED_GROUPS`: all groups but `packet` (00_scope.md R6). -/
def defaultGroups : Groups := ⟨true, true, true, true, true⟩

/-- The default of `SDIV_OVERFLOW`: the quotient is the dividend, the remainder 0 (40_alu.md R75). -/
def defaultSdivOverflow : SdivOverflow := ⟨0x8000000000000000#64, 0#64, 0x80000000#32, 0#32⟩

/-- The rules that admit the accesses of 1, 2, 4 or 8 bytes that lie wholly in a region (20_memory.md R34, R40). -/
def admitRegion (base size : Nat) (read write atomic : Bool) : List Admission :=
  ([1, 2, 4, 8].filter (· ≤ size)).map fun n => ⟨base, base + size - n, n, read, write, atomic⟩

/-- The stack of the reset state: nine frames (`MAX_CALL_DEPTH + 1`) of 512 bytes ending at r10 = 0x2000, private,
admitted for every kind of access (20_memory.md R41, 70_reset_and_hazards.md R308).
DESIGN CHOICE (log 6), unsafe. -/
def defaultStack : List Admission := admitRegion 0x0e00 0x1200 true true true

/-- The context of the reset state, the memory that r1 refers to (70_reset_and_hazards.md R308): 4096 bytes at 0x3000,
private, admitted for every kind of access. DESIGN CHOICE (log 6), unsafe. -/
def defaultContext : List Admission := admitRegion 0x3000 0x1000 true true true

/-- The parameters at their defaults (00_scope.md R6); `admissions` and `shared` are a DESIGN CHOICE (log 6). -/
def defaultParams : Params where
  hostEndian := .little
  groups := defaultGroups
  misaligned := .fault
  maxCallDepth := 8
  stackSize := 512#64
  r10ReadOnly := true
  strictReserved := true
  sdivOverflow := defaultSdivOverflow
  mapByFd := []
  mapByIdx := []
  mapVal := []
  varAddr := []
  codeAddr := []
  admissions := defaultStack ++ defaultContext
  shared := []

/-- The register values of the reset state, r0 to r10 (`ENTRY_REGS`, 70_reset_and_hazards.md R307). r1 and r10
are the values of the spec's own programs (95_test_vectors.md), the others 0.
DESIGN CHOICE (log 3), unsafe. -/
def defaultEntryRegs : Vector (Option Word) 11 :=
  #v[some 0#64, some 0x3000#64, some 0#64, some 0#64, some 0#64, some 0#64, some 0#64, some 0#64,
     some 0#64, some 0#64, some 0x2000#64]

end Sys2Proof.Machine
end

