-- ==== Sys2Proof/Machine/State.lean ====
section
/-! DEFINITION. The state of the machine (10_state.md R15), the faults (60_exceptions.md R287), the refusals,
the helper definitions (42_jump.md R211), and the entry and reset states (70_reset_and_hazards.md R307). -/

namespace Sys2Proof

namespace Machine

/-- The faults: a closed enumeration (60_exceptions.md R287). Each ends the run and leaves no state behind
(R286). All are the spec's own, so none is an unsafe difference. Besides who is named below, a helper raises a
fault that it is defined to raise (42_jump.md R212). -/
inductive Fault where
  /-- Raised by the fetch when the slot does not decode, and by the six packet instructions, with the slot
  index (R288, 46_legacy_packet.md R278). Safe. -/
  | illegalInstruction (slot : Nat)
  /-- Raised by an instruction whose encoding makes it write r10, when `R10_READONLY`, with the slot index
  (R289). Safe. -/
  | framePointerWrite (slot : Nat)
  /-- Raised by an instruction that reads an unwritten register, with its number (R290). Safe; which of
  several registers is named is the model's choice (log 4). -/
  | uninitRegister (r : Reg)
  /-- Raised by loads, stores, atomics and by helpers that say so: address, size, kind, reason (R291). Safe. -/
  | memoryFault (f : AccessFault)
  /-- Raised by taken jumps, `call_local` and the fetch, with the target slot index (R292,
  42_jump.md R159). Safe. -/
  | badJumpTarget (t : Int)
  /-- Raised by `call_local` when `MAX_CALL_DEPTH` frames exist (R293). Safe. -/
  | callDepthExceeded
  /-- Raised by `call_helper` (`srcReg` 0) and `call_btf` (`srcReg` 2) for an unknown identifier (R294).
  Safe. -/
  | unknownHelper (srcReg : BitVec 4) (imm : Word32)
  /-- Raised by the 64-bit immediates of subtype 1 to 6 when the platform function has no value (R295).
  Safe. -/
  | unknownPlatformObject (subtype : BitVec 4) (imm : Word32)
deriving DecidableEq, Repr, Inhabited

/-- Why the model gives no step. -/
inductive Refusal where
  /-- Raised by the dispatch for an instruction that has no meaning yet. No instruction of this model is
  refused so. Safe. -/
  | notModelled (mnemonic : String)
  /-- Raised by `step` on a state whose run has ended: there is no later step (60_exceptions.md R286,
  70_reset_and_hazards.md R310). Safe. -/
  | runEnded
deriving DecidableEq, Repr

/-- The access sizes (20_memory.md R34). -/
inductive AccessSize where
  | b
  | h
  | w
  | dw
deriving DecidableEq, Repr, Inhabited

/-- The operations of helper definitions, on 64-bit words. Comparisons give 1 or 0. -/
inductive HelperOp where
  | add
  | sub
  | mul
  | udiv
  | umod
  | and
  | or
  | xor
  | shl
  | shr
  | eq
  | ult
  | slt
deriving DecidableEq, Repr, Inhabited

/-- A value in a helper definition: a constant, the argument in r1 to r5 (0 stands for r1), the bytes of data memory
at an address as a zero-extended value, or the result of an operation (42_jump.md R211, 20_memory.md R33). -/
inductive HelperExpr where
  | const (v : Word)
  | arg (i : Fin 5)
  | load (n : AccessSize) (addr : HelperExpr)
  | op (o : HelperOp) (a b : HelperExpr)
deriving DecidableEq, Repr, Inhabited

/-- A helper definition: a function of r1 to r5, each possibly unwritten, and of data memory, which gives a result and
a new data memory, or a fault (42_jump.md R211, R212). The shared regions of the memory that it is given hold oracle
input (20_memory.md R47, 70_reset_and_hazards.md R314; log 33). Every such function has a definition of this form, because
registers and memory have finitely many values (log 32). -/
inductive HelperBody where
  /-- The result, and the bytes written: each pair is an address and a value whose low byte is stored. All are computed
  from the arguments and the memory that the helper was given; the last write to an address counts. -/
  | ret (result : HelperExpr) (writes : List (HelperExpr × HelperExpr))
  /-- The helper is defined to raise this fault (42_jump.md R212). -/
  | fault (f : Fault)
  /-- The helper is defined to raise `MemoryFault` at a computed address (60_exceptions.md R291). -/
  | memoryFault (addr : HelperExpr) (size : Nat) (kind : AccessKind) (reason : AccessReason)
  /-- The first branch where the condition is not 0, else the second. -/
  | ite (c : HelperExpr) (yes no : HelperBody)
  /-- The platform has not defined to the model what the helper does: oracle input (42_jump.md R211,
  70_reset_and_hazards.md R314). -/
  | undefined
deriving DecidableEq, Repr, Inhabited

/-- What one call of a helper does that is not defined to the model (42_jump.md R211): the arguments among r1 to r5
that it uses (0 stands for r1), a fault it raises, if any, its result, and the bytes it writes. -/
structure HelperAnswer where
  uses : List (Fin 5)
  fails : Option Fault
  result : Word
  writes : List (Word × Byte)
deriving DecidableEq, Repr, Inhabited

end Machine

/-- FREE VALUE: what a helper does that the platform has not defined to the model, by kind, identifier,
arguments r1 to r5, data memory and the number of answers drawn before (42_jump.md R211; log 10). -/
opaque Config.helperAnswer :
  HelperKind → Word32 → Vector (Option Word) 5 → List Host.Cell → Nat → Machine.HelperAnswer

namespace Machine

/-- A frame of the call stack: the return slot index and the caller's r6 to r10 with their unwritten marks
(10_state.md R29). -/
structure Frame where
  retPc : Nat
  r6 : Option Word
  r7 : Option Word
  r8 : Option Word
  r9 : Option Word
  r10 : Option Word
deriving DecidableEq, Repr

/-- The complete state (10_state.md R15), the parameters of the run (00_scope.md R6) and the model's own fields
(`result`, and the three oracle inputs with their counters). In `regs`, `none` is the spec's mark *unwritten*
(10_state.md R21). `mem` lists the bytes that have a value, in rising order of address. -/
structure State where
  /-- The parameters of 00_scope.md R6; no step changes them. -/
  params : Params
  /-- `HELPERS`: the definitions of the helpers with a static ID (00_scope.md R6, 42_jump.md R212); the first entry of
  an ID counts. No step changes it. -/
  helpers : List (Word32 × HelperBody)
  /-- `BTF_HELPERS`: the same for BTF IDs, a name space of its own (42_jump.md R215). No step changes it. -/
  btfHelpers : List (Word32 × HelperBody)
  /-- `PROGRAM` (10_state.md R28); no step changes it. -/
  program : List Slot
  /-- `x[0..10]` (10_state.md R16, R21). -/
  regs : Vector (Option Word) 11
  /-- The slot index of the instruction to execute (10_state.md R23). -/
  pc : Nat
  /-- The call stack, innermost frame first (10_state.md R29). -/
  frames : List Frame
  /-- The bytes of data memory that have a value (10_state.md R15 (4), 20_memory.md R36). -/
  mem : List Host.Cell
  /-- MODEL: the result of the run once it has ended normally (70_reset_and_hazards.md R310; log 11). -/
  result : Option Word
  /-- MODEL: values of shared-region reads of the program, supplied as input (20_memory.md R47; log 9). -/
  oracle : List Word
  /-- MODEL: how many shared-region values have been drawn (log 9). -/
  oracleCount : Nat
  /-- MODEL: what shared regions hold during helper calls, supplied as input: one list of bytes for each call
  (20_memory.md R47, 70_reset_and_hazards.md R314; log 33). -/
  snapshots : List (List Host.Cell)
  /-- MODEL: how many of them have been drawn (log 33). -/
  snapshotCount : Nat
  /-- MODEL: answers of undefined helpers supplied as input, each for one kind and identifier (42_jump.md R211;
  log 10). -/
  helperAnswers : List ((HelperKind × Word32) × HelperAnswer)
  /-- MODEL: how many helper answers have been drawn (log 10). -/
  helperCount : Nat
deriving DecidableEq, Repr

/-- The state in which a run starts, given what the host fixes before it (70_reset_and_hazards.md R307, R308):
the parameters, `HELPERS`, `BTF_HELPERS`, `PROGRAM`, `ENTRY_REGS`, the initial bytes of `MEM`, and the three oracle
inputs. -/
def State.entry (params : Params) (helpers btfHelpers : List (Word32 × HelperBody)) (program : List Slot)
    (regs : Vector (Option Word) 11) (mem : List Host.Cell) (oracle : List Word)
    (snapshots : List (List Host.Cell)) (answers : List ((HelperKind × Word32) × HelperAnswer)) : State where
  params := params
  helpers := helpers
  btfHelpers := btfHelpers
  program := program
  regs := regs
  pc := 0
  frames := []
  mem := mem
  result := none
  oracle := oracle
  oracleCount := 0
  snapshots := snapshots
  snapshotCount := 0
  helperAnswers := answers
  helperCount := 0

/-- The state after reset: the entry state (70_reset_and_hazards.md R307) at the default parameters, with no
helper, no program, no byte of memory listed, and every register at a value that log 3 names. -/
def State.reset : State :=
  State.entry defaultParams [] [] [] defaultEntryRegs [] [] [] []

end Machine

end Sys2Proof
end

