-- ==== Sys2Proof/Syntax.lean ====
section
/-! DEFINITION. The instructions: one constructor per row of spec/opcode_table.json, with its used fields
(30_encoding.md R59). -/

namespace Sys2Proof

/-- The conformance groups (00_scope.md R7). -/
inductive Group where
  | base32
  | base64
  | divmul32
  | divmul64
  | atomic32
  | atomic64
  | packet
deriving DecidableEq, Repr

/-- The instructions of BPF v1.0. `d` is `dst_reg`, `s` is `src_reg`, `off` is `offset`, `next` is the `imm`
field of the second slot of a wide instruction. Each docstring names the rule of spec/ of its row. -/
inductive Instr where
  -- Arithmetic, classes ALU and ALU64 (40_alu.md)
  /-- `add64_imm`, opcode 0x07: R80. -/
  | add64Imm (d : Reg) (imm : Word32)
  /-- `add64_reg`, opcode 0x0f: R81. -/
  | add64Reg (d : Reg) (s : Reg)
  /-- `add32_imm`, opcode 0x04: R82. -/
  | add32Imm (d : Reg) (imm : Word32)
  /-- `add32_reg`, opcode 0x0c: R83. -/
  | add32Reg (d : Reg) (s : Reg)
  /-- `sub64_imm`, opcode 0x17: R84. -/
  | sub64Imm (d : Reg) (imm : Word32)
  /-- `sub64_reg`, opcode 0x1f: R85. -/
  | sub64Reg (d : Reg) (s : Reg)
  /-- `sub32_imm`, opcode 0x14: R86. -/
  | sub32Imm (d : Reg) (imm : Word32)
  /-- `sub32_reg`, opcode 0x1c: R87. -/
  | sub32Reg (d : Reg) (s : Reg)
  /-- `mul64_imm`, opcode 0x27: R88. -/
  | mul64Imm (d : Reg) (imm : Word32)
  /-- `mul64_reg`, opcode 0x2f: R89. -/
  | mul64Reg (d : Reg) (s : Reg)
  /-- `mul32_imm`, opcode 0x24: R90. -/
  | mul32Imm (d : Reg) (imm : Word32)
  /-- `mul32_reg`, opcode 0x2c: R91. -/
  | mul32Reg (d : Reg) (s : Reg)
  /-- `div64_imm`, opcode 0x37: R92. -/
  | div64Imm (d : Reg) (imm : Word32)
  /-- `div64_reg`, opcode 0x3f: R93. -/
  | div64Reg (d : Reg) (s : Reg)
  /-- `div32_imm`, opcode 0x34: R94. -/
  | div32Imm (d : Reg) (imm : Word32)
  /-- `div32_reg`, opcode 0x3c: R95. -/
  | div32Reg (d : Reg) (s : Reg)
  /-- `sdiv64_imm`, opcode 0x37: R96. -/
  | sdiv64Imm (d : Reg) (imm : Word32)
  /-- `sdiv64_reg`, opcode 0x3f: R97. -/
  | sdiv64Reg (d : Reg) (s : Reg)
  /-- `sdiv32_imm`, opcode 0x34: R98. -/
  | sdiv32Imm (d : Reg) (imm : Word32)
  /-- `sdiv32_reg`, opcode 0x3c: R99. -/
  | sdiv32Reg (d : Reg) (s : Reg)
  /-- `or64_imm`, opcode 0x47: R100. -/
  | or64Imm (d : Reg) (imm : Word32)
  /-- `or64_reg`, opcode 0x4f: R101. -/
  | or64Reg (d : Reg) (s : Reg)
  /-- `or32_imm`, opcode 0x44: R102. -/
  | or32Imm (d : Reg) (imm : Word32)
  /-- `or32_reg`, opcode 0x4c: R103. -/
  | or32Reg (d : Reg) (s : Reg)
  /-- `and64_imm`, opcode 0x57: R104. -/
  | and64Imm (d : Reg) (imm : Word32)
  /-- `and64_reg`, opcode 0x5f: R105. -/
  | and64Reg (d : Reg) (s : Reg)
  /-- `and32_imm`, opcode 0x54: R106. -/
  | and32Imm (d : Reg) (imm : Word32)
  /-- `and32_reg`, opcode 0x5c: R107. -/
  | and32Reg (d : Reg) (s : Reg)
  /-- `lsh64_imm`, opcode 0x67: R108. -/
  | lsh64Imm (d : Reg) (imm : Word32)
  /-- `lsh64_reg`, opcode 0x6f: R109. -/
  | lsh64Reg (d : Reg) (s : Reg)
  /-- `lsh32_imm`, opcode 0x64: R110. -/
  | lsh32Imm (d : Reg) (imm : Word32)
  /-- `lsh32_reg`, opcode 0x6c: R111. -/
  | lsh32Reg (d : Reg) (s : Reg)
  /-- `rsh64_imm`, opcode 0x77: R112. -/
  | rsh64Imm (d : Reg) (imm : Word32)
  /-- `rsh64_reg`, opcode 0x7f: R113. -/
  | rsh64Reg (d : Reg) (s : Reg)
  /-- `rsh32_imm`, opcode 0x74: R114. -/
  | rsh32Imm (d : Reg) (imm : Word32)
  /-- `rsh32_reg`, opcode 0x7c: R115. -/
  | rsh32Reg (d : Reg) (s : Reg)
  /-- `mod64_imm`, opcode 0x97: R116. -/
  | mod64Imm (d : Reg) (imm : Word32)
  /-- `mod64_reg`, opcode 0x9f: R117. -/
  | mod64Reg (d : Reg) (s : Reg)
  /-- `mod32_imm`, opcode 0x94: R118. -/
  | mod32Imm (d : Reg) (imm : Word32)
  /-- `mod32_reg`, opcode 0x9c: R119. -/
  | mod32Reg (d : Reg) (s : Reg)
  /-- `smod64_imm`, opcode 0x97: R120. -/
  | smod64Imm (d : Reg) (imm : Word32)
  /-- `smod64_reg`, opcode 0x9f: R121. -/
  | smod64Reg (d : Reg) (s : Reg)
  /-- `smod32_imm`, opcode 0x94: R122. -/
  | smod32Imm (d : Reg) (imm : Word32)
  /-- `smod32_reg`, opcode 0x9c: R123. -/
  | smod32Reg (d : Reg) (s : Reg)
  /-- `xor64_imm`, opcode 0xa7: R124. -/
  | xor64Imm (d : Reg) (imm : Word32)
  /-- `xor64_reg`, opcode 0xaf: R125. -/
  | xor64Reg (d : Reg) (s : Reg)
  /-- `xor32_imm`, opcode 0xa4: R126. -/
  | xor32Imm (d : Reg) (imm : Word32)
  /-- `xor32_reg`, opcode 0xac: R127. -/
  | xor32Reg (d : Reg) (s : Reg)
  /-- `mov64_imm`, opcode 0xb7: R128. -/
  | mov64Imm (d : Reg) (imm : Word32)
  /-- `mov64_reg`, opcode 0xbf: R129. -/
  | mov64Reg (d : Reg) (s : Reg)
  /-- `mov32_imm`, opcode 0xb4: R130. -/
  | mov32Imm (d : Reg) (imm : Word32)
  /-- `mov32_reg`, opcode 0xbc: R131. -/
  | mov32Reg (d : Reg) (s : Reg)
  /-- `arsh64_imm`, opcode 0xc7: R132. -/
  | arsh64Imm (d : Reg) (imm : Word32)
  /-- `arsh64_reg`, opcode 0xcf: R133. -/
  | arsh64Reg (d : Reg) (s : Reg)
  /-- `arsh32_imm`, opcode 0xc4: R134. -/
  | arsh32Imm (d : Reg) (imm : Word32)
  /-- `arsh32_reg`, opcode 0xcc: R135. -/
  | arsh32Reg (d : Reg) (s : Reg)
  /-- `neg64`, opcode 0x87: R136. -/
  | neg64 (d : Reg)
  /-- `neg32`, opcode 0x84: R137. -/
  | neg32 (d : Reg)
  /-- `movsx64_8`, opcode 0xbf: R138. -/
  | movsx64From8 (d : Reg) (s : Reg)
  /-- `movsx64_16`, opcode 0xbf: R139. -/
  | movsx64From16 (d : Reg) (s : Reg)
  /-- `movsx64_32`, opcode 0xbf: R140. -/
  | movsx64From32 (d : Reg) (s : Reg)
  /-- `movsx32_8`, opcode 0xbc: R141. -/
  | movsx32From8 (d : Reg) (s : Reg)
  /-- `movsx32_16`, opcode 0xbc: R142. -/
  | movsx32From16 (d : Reg) (s : Reg)
  -- Byte swaps (41_byteswap.md)
  /-- `le16`, opcode 0xd4: R148. -/
  | le16 (d : Reg)
  /-- `le32`, opcode 0xd4: R149. -/
  | le32 (d : Reg)
  /-- `le64`, opcode 0xd4: R150. -/
  | le64 (d : Reg)
  /-- `be16`, opcode 0xdc: R151. -/
  | be16 (d : Reg)
  /-- `be32`, opcode 0xdc: R152. -/
  | be32 (d : Reg)
  /-- `be64`, opcode 0xdc: R153. -/
  | be64 (d : Reg)
  /-- `bswap16`, opcode 0xd7: R154. -/
  | bswap16 (d : Reg)
  /-- `bswap32`, opcode 0xd7: R155. -/
  | bswap32 (d : Reg)
  /-- `bswap64`, opcode 0xd7: R156. -/
  | bswap64 (d : Reg)
  -- Jumps, calls and exit (42_jump.md)
  /-- `ja`, opcode 0x05: R164. -/
  | ja (off : BitVec 16)
  /-- `ja32`, opcode 0x06: R165. -/
  | ja32 (imm : Word32)
  /-- `jeq64_imm`, opcode 0x15: R166. -/
  | jeq64Imm (d : Reg) (imm : Word32) (off : BitVec 16)
  /-- `jeq64_reg`, opcode 0x1d: R167. -/
  | jeq64Reg (d : Reg) (s : Reg) (off : BitVec 16)
  /-- `jeq32_imm`, opcode 0x16: R168. -/
  | jeq32Imm (d : Reg) (imm : Word32) (off : BitVec 16)
  /-- `jeq32_reg`, opcode 0x1e: R169. -/
  | jeq32Reg (d : Reg) (s : Reg) (off : BitVec 16)
  /-- `jgt64_imm`, opcode 0x25: R170. -/
  | jgt64Imm (d : Reg) (imm : Word32) (off : BitVec 16)
  /-- `jgt64_reg`, opcode 0x2d: R171. -/
  | jgt64Reg (d : Reg) (s : Reg) (off : BitVec 16)
  /-- `jgt32_imm`, opcode 0x26: R172. -/
  | jgt32Imm (d : Reg) (imm : Word32) (off : BitVec 16)
  /-- `jgt32_reg`, opcode 0x2e: R173. -/
  | jgt32Reg (d : Reg) (s : Reg) (off : BitVec 16)
  /-- `jge64_imm`, opcode 0x35: R174. -/
  | jge64Imm (d : Reg) (imm : Word32) (off : BitVec 16)
  /-- `jge64_reg`, opcode 0x3d: R175. -/
  | jge64Reg (d : Reg) (s : Reg) (off : BitVec 16)
  /-- `jge32_imm`, opcode 0x36: R176. -/
  | jge32Imm (d : Reg) (imm : Word32) (off : BitVec 16)
  /-- `jge32_reg`, opcode 0x3e: R177. -/
  | jge32Reg (d : Reg) (s : Reg) (off : BitVec 16)
  /-- `jset64_imm`, opcode 0x45: R178. -/
  | jset64Imm (d : Reg) (imm : Word32) (off : BitVec 16)
  /-- `jset64_reg`, opcode 0x4d: R179. -/
  | jset64Reg (d : Reg) (s : Reg) (off : BitVec 16)
  /-- `jset32_imm`, opcode 0x46: R180. -/
  | jset32Imm (d : Reg) (imm : Word32) (off : BitVec 16)
  /-- `jset32_reg`, opcode 0x4e: R181. -/
  | jset32Reg (d : Reg) (s : Reg) (off : BitVec 16)
  /-- `jne64_imm`, opcode 0x55: R182. -/
  | jne64Imm (d : Reg) (imm : Word32) (off : BitVec 16)
  /-- `jne64_reg`, opcode 0x5d: R183. -/
  | jne64Reg (d : Reg) (s : Reg) (off : BitVec 16)
  /-- `jne32_imm`, opcode 0x56: R184. -/
  | jne32Imm (d : Reg) (imm : Word32) (off : BitVec 16)
  /-- `jne32_reg`, opcode 0x5e: R185. -/
  | jne32Reg (d : Reg) (s : Reg) (off : BitVec 16)
  /-- `jsgt64_imm`, opcode 0x65: R186. -/
  | jsgt64Imm (d : Reg) (imm : Word32) (off : BitVec 16)
  /-- `jsgt64_reg`, opcode 0x6d: R187. -/
  | jsgt64Reg (d : Reg) (s : Reg) (off : BitVec 16)
  /-- `jsgt32_imm`, opcode 0x66: R188. -/
  | jsgt32Imm (d : Reg) (imm : Word32) (off : BitVec 16)
  /-- `jsgt32_reg`, opcode 0x6e: R189. -/
  | jsgt32Reg (d : Reg) (s : Reg) (off : BitVec 16)
  /-- `jsge64_imm`, opcode 0x75: R190. -/
  | jsge64Imm (d : Reg) (imm : Word32) (off : BitVec 16)
  /-- `jsge64_reg`, opcode 0x7d: R191. -/
  | jsge64Reg (d : Reg) (s : Reg) (off : BitVec 16)
  /-- `jsge32_imm`, opcode 0x76: R192. -/
  | jsge32Imm (d : Reg) (imm : Word32) (off : BitVec 16)
  /-- `jsge32_reg`, opcode 0x7e: R193. -/
  | jsge32Reg (d : Reg) (s : Reg) (off : BitVec 16)
  /-- `jlt64_imm`, opcode 0xa5: R194. -/
  | jlt64Imm (d : Reg) (imm : Word32) (off : BitVec 16)
  /-- `jlt64_reg`, opcode 0xad: R195. -/
  | jlt64Reg (d : Reg) (s : Reg) (off : BitVec 16)
  /-- `jlt32_imm`, opcode 0xa6: R196. -/
  | jlt32Imm (d : Reg) (imm : Word32) (off : BitVec 16)
  /-- `jlt32_reg`, opcode 0xae: R197. -/
  | jlt32Reg (d : Reg) (s : Reg) (off : BitVec 16)
  /-- `jle64_imm`, opcode 0xb5: R198. -/
  | jle64Imm (d : Reg) (imm : Word32) (off : BitVec 16)
  /-- `jle64_reg`, opcode 0xbd: R199. -/
  | jle64Reg (d : Reg) (s : Reg) (off : BitVec 16)
  /-- `jle32_imm`, opcode 0xb6: R200. -/
  | jle32Imm (d : Reg) (imm : Word32) (off : BitVec 16)
  /-- `jle32_reg`, opcode 0xbe: R201. -/
  | jle32Reg (d : Reg) (s : Reg) (off : BitVec 16)
  /-- `jslt64_imm`, opcode 0xc5: R202. -/
  | jslt64Imm (d : Reg) (imm : Word32) (off : BitVec 16)
  /-- `jslt64_reg`, opcode 0xcd: R203. -/
  | jslt64Reg (d : Reg) (s : Reg) (off : BitVec 16)
  /-- `jslt32_imm`, opcode 0xc6: R204. -/
  | jslt32Imm (d : Reg) (imm : Word32) (off : BitVec 16)
  /-- `jslt32_reg`, opcode 0xce: R205. -/
  | jslt32Reg (d : Reg) (s : Reg) (off : BitVec 16)
  /-- `jsle64_imm`, opcode 0xd5: R206. -/
  | jsle64Imm (d : Reg) (imm : Word32) (off : BitVec 16)
  /-- `jsle64_reg`, opcode 0xdd: R207. -/
  | jsle64Reg (d : Reg) (s : Reg) (off : BitVec 16)
  /-- `jsle32_imm`, opcode 0xd6: R208. -/
  | jsle32Imm (d : Reg) (imm : Word32) (off : BitVec 16)
  /-- `jsle32_reg`, opcode 0xde: R209. -/
  | jsle32Reg (d : Reg) (s : Reg) (off : BitVec 16)
  /-- `call_helper`, opcode 0x85: R212. -/
  | callHelper (imm : Word32)
  /-- `call_local`, opcode 0x85: R214. -/
  | callLocal (imm : Word32)
  /-- `call_btf`, opcode 0x85: R215. -/
  | callBtf (imm : Word32)
  /-- `exit`, opcode 0x95: R216. -/
  | exit
  -- Loads and stores (43_load_store.md)
  /-- `ldxw`, opcode 0x61: R223. -/
  | ldxw (d : Reg) (s : Reg) (off : BitVec 16)
  /-- `ldxh`, opcode 0x69: R224. -/
  | ldxh (d : Reg) (s : Reg) (off : BitVec 16)
  /-- `ldxb`, opcode 0x71: R225. -/
  | ldxb (d : Reg) (s : Reg) (off : BitVec 16)
  /-- `ldxdw`, opcode 0x79: R226. -/
  | ldxdw (d : Reg) (s : Reg) (off : BitVec 16)
  /-- `ldxsw`, opcode 0x81: R227. -/
  | ldxsw (d : Reg) (s : Reg) (off : BitVec 16)
  /-- `ldxsh`, opcode 0x89: R228. -/
  | ldxsh (d : Reg) (s : Reg) (off : BitVec 16)
  /-- `ldxsb`, opcode 0x91: R229. -/
  | ldxsb (d : Reg) (s : Reg) (off : BitVec 16)
  /-- `stw`, opcode 0x62: R230. -/
  | stw (d : Reg) (off : BitVec 16) (imm : Word32)
  /-- `sth`, opcode 0x6a: R231. -/
  | sth (d : Reg) (off : BitVec 16) (imm : Word32)
  /-- `stb`, opcode 0x72: R232. -/
  | stb (d : Reg) (off : BitVec 16) (imm : Word32)
  /-- `stdw`, opcode 0x7a: R233. -/
  | stdw (d : Reg) (off : BitVec 16) (imm : Word32)
  /-- `stxw`, opcode 0x63: R234. -/
  | stxw (d : Reg) (s : Reg) (off : BitVec 16)
  /-- `stxh`, opcode 0x6b: R235. -/
  | stxh (d : Reg) (s : Reg) (off : BitVec 16)
  /-- `stxb`, opcode 0x73: R236. -/
  | stxb (d : Reg) (s : Reg) (off : BitVec 16)
  /-- `stxdw`, opcode 0x7b: R237. -/
  | stxdw (d : Reg) (s : Reg) (off : BitVec 16)
  -- Atomic operations (44_atomic.md)
  /-- `atomic_add32`, opcode 0xc3: R245. -/
  | atomicAdd32 (d : Reg) (s : Reg) (off : BitVec 16)
  /-- `atomic_fetch_add32`, opcode 0xc3: R246. -/
  | atomicFetchAdd32 (d : Reg) (s : Reg) (off : BitVec 16)
  /-- `atomic_or32`, opcode 0xc3: R247. -/
  | atomicOr32 (d : Reg) (s : Reg) (off : BitVec 16)
  /-- `atomic_fetch_or32`, opcode 0xc3: R248. -/
  | atomicFetchOr32 (d : Reg) (s : Reg) (off : BitVec 16)
  /-- `atomic_and32`, opcode 0xc3: R249. -/
  | atomicAnd32 (d : Reg) (s : Reg) (off : BitVec 16)
  /-- `atomic_fetch_and32`, opcode 0xc3: R250. -/
  | atomicFetchAnd32 (d : Reg) (s : Reg) (off : BitVec 16)
  /-- `atomic_xor32`, opcode 0xc3: R251. -/
  | atomicXor32 (d : Reg) (s : Reg) (off : BitVec 16)
  /-- `atomic_fetch_xor32`, opcode 0xc3: R252. -/
  | atomicFetchXor32 (d : Reg) (s : Reg) (off : BitVec 16)
  /-- `atomic_xchg32`, opcode 0xc3: R253. -/
  | atomicXchg32 (d : Reg) (s : Reg) (off : BitVec 16)
  /-- `atomic_cmpxchg32`, opcode 0xc3: R254. -/
  | atomicCmpxchg32 (d : Reg) (s : Reg) (off : BitVec 16)
  /-- `atomic_add64`, opcode 0xdb: R255. -/
  | atomicAdd64 (d : Reg) (s : Reg) (off : BitVec 16)
  /-- `atomic_fetch_add64`, opcode 0xdb: R256. -/
  | atomicFetchAdd64 (d : Reg) (s : Reg) (off : BitVec 16)
  /-- `atomic_or64`, opcode 0xdb: R257. -/
  | atomicOr64 (d : Reg) (s : Reg) (off : BitVec 16)
  /-- `atomic_fetch_or64`, opcode 0xdb: R258. -/
  | atomicFetchOr64 (d : Reg) (s : Reg) (off : BitVec 16)
  /-- `atomic_and64`, opcode 0xdb: R259. -/
  | atomicAnd64 (d : Reg) (s : Reg) (off : BitVec 16)
  /-- `atomic_fetch_and64`, opcode 0xdb: R260. -/
  | atomicFetchAnd64 (d : Reg) (s : Reg) (off : BitVec 16)
  /-- `atomic_xor64`, opcode 0xdb: R261. -/
  | atomicXor64 (d : Reg) (s : Reg) (off : BitVec 16)
  /-- `atomic_fetch_xor64`, opcode 0xdb: R262. -/
  | atomicFetchXor64 (d : Reg) (s : Reg) (off : BitVec 16)
  /-- `atomic_xchg64`, opcode 0xdb: R263. -/
  | atomicXchg64 (d : Reg) (s : Reg) (off : BitVec 16)
  /-- `atomic_cmpxchg64`, opcode 0xdb: R264. -/
  | atomicCmpxchg64 (d : Reg) (s : Reg) (off : BitVec 16)
  -- 64-bit immediates, wide (45_imm64.md)
  /-- `lddw`, opcode 0x18: R270. -/
  | lddw (d : Reg) (imm : Word32) (next : Word32)
  /-- `ld_map_fd`, opcode 0x18: R271. -/
  | ldMapFd (d : Reg) (imm : Word32)
  /-- `ld_map_val_fd`, opcode 0x18: R272. -/
  | ldMapValFd (d : Reg) (imm : Word32) (next : Word32)
  /-- `ld_var_addr`, opcode 0x18: R273. -/
  | ldVarAddr (d : Reg) (imm : Word32)
  /-- `ld_code_addr`, opcode 0x18: R274. -/
  | ldCodeAddr (d : Reg) (imm : Word32)
  /-- `ld_map_idx`, opcode 0x18: R275. -/
  | ldMapIdx (d : Reg) (imm : Word32)
  /-- `ld_map_val_idx`, opcode 0x18: R276. -/
  | ldMapValIdx (d : Reg) (imm : Word32) (next : Word32)
  -- Legacy packet access (46_legacy_packet.md)
  /-- `ldabsw`, opcode 0x20: R279. -/
  | ldabsw (imm : Word32)
  /-- `ldabsh`, opcode 0x28: R280. -/
  | ldabsh (imm : Word32)
  /-- `ldabsb`, opcode 0x30: R281. -/
  | ldabsb (imm : Word32)
  /-- `ldindw`, opcode 0x40: R282. -/
  | ldindw (s : Reg) (imm : Word32)
  /-- `ldindh`, opcode 0x48: R283. -/
  | ldindh (s : Reg) (imm : Word32)
  /-- `ldindb`, opcode 0x50: R284. -/
  | ldindb (s : Reg) (imm : Word32)
deriving DecidableEq, Repr

end Sys2Proof
end

