-- ==== Sys2Proof/WellFormed.lean ====
section
/-! DEFINITION. When an instruction is well formed: its conformance group is supported. The ranges of the
register numbers and the widths of the fields are in the types of `Instr`; what a decoder checks of the
unused fields is in Decode.lean. -/

namespace Sys2Proof

/-- The conformance group of each instruction: the key `group` of its row in spec/opcode_table.json
(00_scope.md R7; 40_alu.md R78; 41_byteswap.md R147; 42_jump.md R161; 43_load_store.md R221). -/
def Instr.group : Instr → Group
  | .add64Imm _ _ => .base64
  | .add64Reg _ _ => .base64
  | .add32Imm _ _ => .base32
  | .add32Reg _ _ => .base32
  | .sub64Imm _ _ => .base64
  | .sub64Reg _ _ => .base64
  | .sub32Imm _ _ => .base32
  | .sub32Reg _ _ => .base32
  | .mul64Imm _ _ => .divmul64
  | .mul64Reg _ _ => .divmul64
  | .mul32Imm _ _ => .divmul32
  | .mul32Reg _ _ => .divmul32
  | .div64Imm _ _ => .divmul64
  | .div64Reg _ _ => .divmul64
  | .div32Imm _ _ => .divmul32
  | .div32Reg _ _ => .divmul32
  | .sdiv64Imm _ _ => .divmul64
  | .sdiv64Reg _ _ => .divmul64
  | .sdiv32Imm _ _ => .divmul32
  | .sdiv32Reg _ _ => .divmul32
  | .or64Imm _ _ => .base64
  | .or64Reg _ _ => .base64
  | .or32Imm _ _ => .base32
  | .or32Reg _ _ => .base32
  | .and64Imm _ _ => .base64
  | .and64Reg _ _ => .base64
  | .and32Imm _ _ => .base32
  | .and32Reg _ _ => .base32
  | .lsh64Imm _ _ => .base64
  | .lsh64Reg _ _ => .base64
  | .lsh32Imm _ _ => .base32
  | .lsh32Reg _ _ => .base32
  | .rsh64Imm _ _ => .base64
  | .rsh64Reg _ _ => .base64
  | .rsh32Imm _ _ => .base32
  | .rsh32Reg _ _ => .base32
  | .mod64Imm _ _ => .divmul64
  | .mod64Reg _ _ => .divmul64
  | .mod32Imm _ _ => .divmul32
  | .mod32Reg _ _ => .divmul32
  | .smod64Imm _ _ => .divmul64
  | .smod64Reg _ _ => .divmul64
  | .smod32Imm _ _ => .divmul32
  | .smod32Reg _ _ => .divmul32
  | .xor64Imm _ _ => .base64
  | .xor64Reg _ _ => .base64
  | .xor32Imm _ _ => .base32
  | .xor32Reg _ _ => .base32
  | .mov64Imm _ _ => .base64
  | .mov64Reg _ _ => .base64
  | .mov32Imm _ _ => .base32
  | .mov32Reg _ _ => .base32
  | .arsh64Imm _ _ => .base64
  | .arsh64Reg _ _ => .base64
  | .arsh32Imm _ _ => .base32
  | .arsh32Reg _ _ => .base32
  | .neg64 _ => .base64
  | .neg32 _ => .base32
  | .movsx64From8 _ _ => .base64
  | .movsx64From16 _ _ => .base64
  | .movsx64From32 _ _ => .base64
  | .movsx32From8 _ _ => .base32
  | .movsx32From16 _ _ => .base32
  | .le16 _ => .base32
  | .le32 _ => .base32
  | .le64 _ => .base64
  | .be16 _ => .base32
  | .be32 _ => .base32
  | .be64 _ => .base64
  | .bswap16 _ => .base32
  | .bswap32 _ => .base32
  | .bswap64 _ => .base64
  | .ja _ => .base32
  | .ja32 _ => .base32
  | .jeq64Imm _ _ _ => .base64
  | .jeq64Reg _ _ _ => .base64
  | .jeq32Imm _ _ _ => .base32
  | .jeq32Reg _ _ _ => .base32
  | .jgt64Imm _ _ _ => .base64
  | .jgt64Reg _ _ _ => .base64
  | .jgt32Imm _ _ _ => .base32
  | .jgt32Reg _ _ _ => .base32
  | .jge64Imm _ _ _ => .base64
  | .jge64Reg _ _ _ => .base64
  | .jge32Imm _ _ _ => .base32
  | .jge32Reg _ _ _ => .base32
  | .jset64Imm _ _ _ => .base64
  | .jset64Reg _ _ _ => .base64
  | .jset32Imm _ _ _ => .base32
  | .jset32Reg _ _ _ => .base32
  | .jne64Imm _ _ _ => .base64
  | .jne64Reg _ _ _ => .base64
  | .jne32Imm _ _ _ => .base32
  | .jne32Reg _ _ _ => .base32
  | .jsgt64Imm _ _ _ => .base64
  | .jsgt64Reg _ _ _ => .base64
  | .jsgt32Imm _ _ _ => .base32
  | .jsgt32Reg _ _ _ => .base32
  | .jsge64Imm _ _ _ => .base64
  | .jsge64Reg _ _ _ => .base64
  | .jsge32Imm _ _ _ => .base32
  | .jsge32Reg _ _ _ => .base32
  | .jlt64Imm _ _ _ => .base64
  | .jlt64Reg _ _ _ => .base64
  | .jlt32Imm _ _ _ => .base32
  | .jlt32Reg _ _ _ => .base32
  | .jle64Imm _ _ _ => .base64
  | .jle64Reg _ _ _ => .base64
  | .jle32Imm _ _ _ => .base32
  | .jle32Reg _ _ _ => .base32
  | .jslt64Imm _ _ _ => .base64
  | .jslt64Reg _ _ _ => .base64
  | .jslt32Imm _ _ _ => .base32
  | .jslt32Reg _ _ _ => .base32
  | .jsle64Imm _ _ _ => .base64
  | .jsle64Reg _ _ _ => .base64
  | .jsle32Imm _ _ _ => .base32
  | .jsle32Reg _ _ _ => .base32
  | .callHelper _ => .base32
  | .callLocal _ => .base32
  | .callBtf _ => .base32
  | .exit => .base32
  | .ldxw _ _ _ => .base32
  | .ldxh _ _ _ => .base32
  | .ldxb _ _ _ => .base32
  | .ldxdw _ _ _ => .base64
  | .ldxsw _ _ _ => .base32
  | .ldxsh _ _ _ => .base32
  | .ldxsb _ _ _ => .base32
  | .stw _ _ _ => .base32
  | .sth _ _ _ => .base32
  | .stb _ _ _ => .base32
  | .stdw _ _ _ => .base64
  | .stxw _ _ _ => .base32
  | .stxh _ _ _ => .base32
  | .stxb _ _ _ => .base32
  | .stxdw _ _ _ => .base64
  | .atomicAdd32 _ _ _ => .atomic32
  | .atomicFetchAdd32 _ _ _ => .atomic32
  | .atomicOr32 _ _ _ => .atomic32
  | .atomicFetchOr32 _ _ _ => .atomic32
  | .atomicAnd32 _ _ _ => .atomic32
  | .atomicFetchAnd32 _ _ _ => .atomic32
  | .atomicXor32 _ _ _ => .atomic32
  | .atomicFetchXor32 _ _ _ => .atomic32
  | .atomicXchg32 _ _ _ => .atomic32
  | .atomicCmpxchg32 _ _ _ => .atomic32
  | .atomicAdd64 _ _ _ => .atomic64
  | .atomicFetchAdd64 _ _ _ => .atomic64
  | .atomicOr64 _ _ _ => .atomic64
  | .atomicFetchOr64 _ _ _ => .atomic64
  | .atomicAnd64 _ _ _ => .atomic64
  | .atomicFetchAnd64 _ _ _ => .atomic64
  | .atomicXor64 _ _ _ => .atomic64
  | .atomicFetchXor64 _ _ _ => .atomic64
  | .atomicXchg64 _ _ _ => .atomic64
  | .atomicCmpxchg64 _ _ _ => .atomic64
  | .lddw _ _ _ => .base64
  | .ldMapFd _ _ => .base64
  | .ldMapValFd _ _ _ => .base64
  | .ldVarAddr _ _ => .base64
  | .ldCodeAddr _ _ => .base64
  | .ldMapIdx _ _ => .base64
  | .ldMapValIdx _ _ _ => .base64
  | .ldabsw _ => .packet
  | .ldabsh _ => .packet
  | .ldabsb _ => .packet
  | .ldindw _ _ => .packet
  | .ldindh _ _ => .packet
  | .ldindb _ _ => .packet

/-- Whether a group is in `SUPPORTED_GROUPS`. `base32` always is, `packet` never is; `atomic64` includes
`atomic32` and `divmul64` includes `divmul32` (00_scope.md R6, R7; 46_legacy_packet.md R278; log 13). -/
def Groups.supports (g : Groups) : Group → Bool
  | .base32 => true
  | .base64 => g.base64
  | .divmul32 => g.divmul32 || g.divmul64
  | .divmul64 => g.divmul64
  | .atomic32 => g.atomic32 || g.atomic64
  | .atomic64 => g.atomic64
  | .packet => false

/-- An instruction is well formed for an implementation when its group is supported (30_encoding.md R61,
step 6). -/
def Instr.wellFormed (p : Params) (i : Instr) : Bool := p.groups.supports i.group

end Sys2Proof
end

