-- ==== Sys2Proof/Machine/Ops.lean ====
section
/-! DEFINITION. The operations that the meanings share: registers, data memory, control transfer, calls,
helpers and platform functions. An instruction's faults are computed in `Except Fault`, in the order of
60_exceptions.md R296, before anything is written. -/

namespace Sys2Proof.Machine

/-! ## The end of an instruction

The spec has no trap entry and no return from one (60_exceptions.md R297): taking a fault is ending the run
with the fault's name, which `commit` does, and no state is saved. -/

/-- The outcome of an instruction: a fault ends the run and leaves no next state (60_exceptions.md R286). -/
def commit : Except Fault State → Host.Outcome State Fault Refusal
  | .ok s => .next s
  | .error f => .fault f

/-! ## Registers -/

/-- `x[r]`, or none where it is unwritten (10_state.md R21). -/
def State.reg (s : State) (r : Reg) : Option Word := s.regs.get r

/-- Give register `r` a value or the unwritten mark. -/
def State.putReg (s : State) (r : Reg) (v : Option Word) : State := { s with regs := s.regs.set r.val v }

/-- `x[r] <- v`: all 64 bits are replaced (00_scope.md R13, 10_state.md R22). -/
def State.setReg (s : State) (r : Reg) (v : Word) : State := s.putReg r (some v)

/-- Make register `r` unwritten (10_state.md R21). -/
def State.clearReg (s : State) (r : Reg) : State := s.putReg r none

/-- Read `x[r]`; an unwritten register faults (10_state.md R21, 60_exceptions.md R290). -/
def State.readReg (s : State) (r : Reg) : Except Fault Word :=
  match s.reg r with
  | some v => .ok v
  | none => .error (.uninitRegister r)

/-- `FramePointerWrite`, for an instruction whose encoding makes it write register `r`
(10_state.md R20, 60_exceptions.md R289). -/
def State.checkDest (s : State) (r : Reg) : Except Fault Unit :=
  if s.params.r10ReadOnly && r == 10 then .error (.framePointerWrite s.pc) else .ok ()

/-- Go on to the slot `n` slots later (10_state.md R23). -/
def State.advance (s : State) (n : Nat) : State := { s with pc := s.pc + n }

/-! ## Program text and jump targets -/

/-- Whether slot `t` is the first slot of an instruction when the program is decoded sequentially
(42_jump.md R159). `second` says that the head of the list is the second slot of a wide instruction. A slot
whose opcode is undefined counts as one slot. DEDUCED (log 12). -/
def startsAt : List Slot → Bool → Nat → Bool
  | [], _, _ => false
  | _ :: _, second, 0 => !second
  | x :: xs, second, t + 1 => startsAt xs (!second && x.b0 == 0x18) t

/-- Whether `t` is inside the program and the first slot of an instruction (42_jump.md R159). -/
def State.isStart (s : State) (t : Nat) : Bool := startsAt s.program false t

/-- The target of a jump by `delta` slots: relative to the slot after the jump, in unbounded integers
(42_jump.md R158, 10_state.md R23). -/
def State.jumpTarget (s : State) (delta : Int) : Int := (s.pc : Int) + 1 + delta

/-- Check a jump target: the slot index, or `BadJumpTarget` (42_jump.md R159). -/
def State.checkTarget (s : State) (t : Int) : Except Fault Nat :=
  if 0 ≤ t && s.isStart t.toNat then .ok t.toNat else .error (.badJumpTarget t)

/-- Take a jump by `delta` slots (42_jump.md R158, R159). -/
def State.jump (s : State) (delta : Int) : Except Fault State :=
  match s.checkTarget (s.jumpTarget delta) with
  | .ok t => .ok { s with pc := t }
  | .error f => .error f

/-! ## Data memory: the list of bytes -/

/-- The byte at an address, none where the list has none. -/
def Memory.get : List Host.Cell → Nat → Option Byte
  | [], _ => none
  | (k, v) :: m, a => if a = k then some v else Memory.get m a

/-- Give a byte a value; the list stays in rising order of address. -/
def Memory.set : List Host.Cell → Nat → Byte → List Host.Cell
  | [], a, b => [(a, b)]
  | (k, v) :: m, a, b =>
    if a < k then (a, b) :: (k, v) :: m
    else if a = k then (a, b) :: m
    else (k, v) :: Memory.set m a b

/-- Whether every address of the list is at least `lo` and below 2^64, and addresses strictly rise. -/
def Memory.wfFrom (lo : Nat) : List Host.Cell → Bool
  | [] => true
  | (k, _) :: m => decide (lo ≤ k) && decide (k < 2 ^ 64) && Memory.wfFrom (k + 1) m

/-- The canonical form of memory: u64 addresses, strictly rising. An address that is not listed has no value of
its own, so no listed byte can equal it. -/
def Memory.wf (m : List Host.Cell) : Bool := Memory.wfFrom 0 m

/-! ## Data memory: accesses -/

/-- The number of bytes of an access (20_memory.md R34). -/
def AccessSize.bytes : AccessSize → Nat
  | .b => 1
  | .h => 2
  | .w => 4
  | .dw => 8

/-- The address of byte `i` of an access at `ea`, modulo 2^64 (20_memory.md R35). -/
def byteAddr (ea : Word) (i : Nat) : Nat := (ea + BitVec.ofNat 64 i).toNat

/-- What a byte of some data memory holds: its value, or where no agent has written it, whatever `MEM` supplies,
a free value (20_memory.md R36, R41; log 8). -/
def Memory.byte (m : List Host.Cell) (a : Nat) : Byte := (Memory.get m a).getD (Config.unwrittenByte a)

/-- What a byte of the machine's data memory holds. -/
def State.readByte (s : State) (a : Nat) : Byte := Memory.byte s.mem a

/-- The number whose bytes, least significant first, are given. -/
def ofBytesLittle : List Byte → Nat
  | [] => 0
  | b :: bs => b.toNat + 256 * ofBytesLittle bs

/-- The `n` low bytes of a number, least significant first. -/
def toBytesLittle : Nat → Nat → List Byte
  | 0, _ => []
  | n + 1, v => BitVec.ofNat 8 v :: toBytesLittle n (v / 256)

/-- The value of bytes in rising order of address, in host byte order (20_memory.md R33). -/
def ofBytes (e : HostEndian) (bs : List Byte) : Word :=
  match e with
  | .little => BitVec.ofNat 64 (ofBytesLittle bs)
  | .big => BitVec.ofNat 64 (ofBytesLittle bs.reverse)

/-- The bytes of the low `8 n` bits of a value in rising order of address, in host byte order
(20_memory.md R33, R37). -/
def toBytes (e : HostEndian) (n : Nat) (v : Word) : List Byte :=
  match e with
  | .little => toBytesLittle n v.toNat
  | .big => (toBytesLittle n v.toNat).reverse

/-- Whether an admission rule allows a kind of access. -/
def admissionAllows (r : Admission) : AccessKind → Bool
  | .read => r.read
  | .write => r.write
  | .atomic => r.atomic

/-- Whether some rule of `MEM` names a kind of access of this size at this address (20_memory.md R40). -/
def State.admitsKind (s : State) (ea : Word) (n : AccessSize) (k : AccessKind) : Bool :=
  s.params.admissions.any fun r =>
    decide (r.first ≤ ea.toNat) && decide (ea.toNat ≤ r.last) && r.size == n.bytes && admissionAllows r k

/-- The kinds of access that `MEM` must allow for an access of some kind: an atomic access needs a read and a write as
well (44_atomic.md R244). -/
def neededKinds : AccessKind → List AccessKind
  | .read => [.read]
  | .write => [.write]
  | .atomic => [.atomic, .read, .write]

/-- Whether `MEM` admits an access, `admits(addr, n, kind)` (20_memory.md R40, 44_atomic.md R244; log 7). -/
def State.admits (s : State) (ea : Word) (n : AccessSize) (k : AccessKind) : Bool :=
  (neededKinds k).all fun j => s.admitsKind ea n j

/-- Whether a region contains an address. -/
def regionContains (r : Region) (a : Nat) : Bool := decide (r.base ≤ a) && decide (a < r.base + r.size)

/-- Whether a byte lies in a region marked shared (20_memory.md R40, R47). -/
def State.sharedByte (s : State) (a : Nat) : Bool := s.params.shared.any fun r => regionContains r a

/-- Whether an access touches a byte of a shared region (20_memory.md R47). -/
def State.touchesShared (s : State) (ea : Word) (n : AccessSize) : Bool :=
  (List.range n.bytes).any fun i => s.sharedByte (byteAddr ea i)

/-- Whether an access of this kind faults as misaligned: when `MISALIGNED` is `fault`, and for atomics under
both settings (20_memory.md R39, 44_atomic.md R243). -/
def State.misaligned (s : State) (ea : Word) (n : AccessSize) (k : AccessKind) : Bool :=
  (s.params.misaligned == .fault || k == .atomic) && !(ea.toNat % n.bytes == 0)

/-- The two checks of an access, misaligned before not admitted (20_memory.md R36, R37;
60_exceptions.md R291). -/
def State.checkAccess (s : State) (ea : Word) (n : AccessSize) (k : AccessKind) : Except Fault Unit :=
  if s.misaligned ea n k then .error (.memoryFault ⟨ea, n.bytes, k, .misaligned⟩)
  else if s.admits ea n k then .ok ()
  else .error (.memoryFault ⟨ea, n.bytes, k, .notAdmitted⟩)

/-- The next value of the oracle sequence: the next supplied one, or else a free value
(20_memory.md R47; log 9). -/
def State.oracleNext (s : State) : Word := s.oracle.headD (Config.oracleValue s.oracleCount)

/-- The state after one value of the oracle sequence has been drawn (log 9). -/
def State.drawOracle (s : State) : State :=
  { s with oracle := s.oracle.tail, oracleCount := s.oracleCount + 1 }

/-- The bytes that a read at `ea` returns: of a private region the latest value, of a shared region the bytes of
the oracle's value (20_memory.md R36, R47). -/
def State.loadBytes (s : State) (ea : Word) (n : AccessSize) : List Byte :=
  let drawn := toBytes s.params.hostEndian n.bytes s.oracleNext
  (List.range n.bytes).map fun i =>
    if s.sharedByte (byteAddr ea i) then drawn.getD i 0 else s.readByte (byteAddr ea i)

/-- The value that a read at `ea` returns, zero-extended (20_memory.md R36). -/
def State.load (s : State) (ea : Word) (n : AccessSize) : Word :=
  ofBytes s.params.hostEndian (s.loadBytes ea n)

/-- The state after a read at `ea`: memory is unchanged (20_memory.md R36); a read that touches a shared region
has drawn one value of the oracle sequence (R47). -/
def State.afterLoad (s : State) (ea : Word) (n : AccessSize) : State :=
  if s.touchesShared ea n then s.drawOracle else s

/-- Write bytes at `ea`, `ea + 1`, ..., each address modulo 2^64 (20_memory.md R35). -/
def writeBytes (m : List Host.Cell) (ea : Word) : List Byte → List Host.Cell
  | [] => m
  | b :: bs => writeBytes (Memory.set m ea.toNat b) (ea + 1) bs

/-- Replace data memory. -/
def State.withMem (s : State) (m : List Host.Cell) : State := { s with mem := m }

/-- Store the low bytes of a value at `ea` in host byte order (20_memory.md R37). -/
def State.store (s : State) (ea : Word) (n : AccessSize) (v : Word) : State :=
  s.withMem (writeBytes s.mem ea (toBytes s.params.hostEndian n.bytes v))

/-! ## Program-local calls and `exit` -/

/-- Replace the call stack and go to a slot. -/
def State.goTo (s : State) (frames : List Frame) (t : Nat) : State := { s with frames := frames, pc := t }

/-- The frame that a program-local call pushes: the slot after the call and r6 to r10 with their unwritten marks
(42_jump.md R214). -/
def State.frame (s : State) : Frame := ⟨s.pc + 1, s.reg 6, s.reg 7, s.reg 8, s.reg 9, s.reg 10⟩

/-- The callee's start: a new frame, r10 lowered by `STACK_SIZE` where it is written, r0 and r6 to r9 unwritten,
r1 to r5 as they are (42_jump.md R214). PRESUMED with the spec's D14 (log 17). -/
def State.enterFunction (s : State) (t : Nat) : State :=
  let r10 := (s.reg 10).map fun v => v - s.params.stackSize
  ((((((s.putReg 10 r10).clearReg 0).clearReg 6).clearReg 7).clearReg 8).clearReg 9).goTo
    (s.frame :: s.frames) t

/-- A program-local call by `delta` slots: `CallDepthExceeded` before `BadJumpTarget`
(42_jump.md R214, 60_exceptions.md R296). -/
def State.callLocal (s : State) (delta : Int) : Except Fault State :=
  if s.params.maxCallDepth ≤ s.frames.length then .error .callDepthExceeded
  else match s.checkTarget (s.jumpTarget delta) with
    | .ok t => .ok (s.enterFunction t)
    | .error f => .error f

/-- Make the argument registers r1 to r5 unwritten (42_jump.md R211, R216). -/
def State.clearArgs (s : State) : State :=
  ((((s.clearReg 1).clearReg 2).clearReg 3).clearReg 4).clearReg 5

/-- Return to the caller: r6 to r10 from the frame, r1 to r5 unwritten, r0 kept (42_jump.md R216). -/
def State.returnTo (s : State) (f : Frame) (rest : List Frame) : State :=
  (((((s.clearArgs.putReg 6 f.r6).putReg 7 f.r7).putReg 8 f.r8).putReg 9 f.r9).putReg 10 f.r10).goTo
    rest f.retPc

/-- `exit`: with a frame, return to the caller; with none, the run ends with the result r0 and everything else
stays as it is (42_jump.md R216, 70_reset_and_hazards.md R310; log 11). -/
def State.leaveFunction (s : State) : Except Fault State :=
  match s.readReg 0 with
  | .error f => .error f
  | .ok v =>
    match s.frames with
    | [] => .ok { s with result := some v }
    | f :: rest => .ok (s.returnTo f rest)

/-! ## Finite partial functions -/

/-- The value of a finite partial function at a point, none where it is undefined; the first entry counts. -/
def lookup {α β : Type} [DecidableEq α] : List (α × β) → α → Option β
  | [], _ => none
  | (k, v) :: m, a => if a = k then some v else lookup m a

/-! ## Helper definitions: functions of the arguments and data memory (42_jump.md R211) -/

/-- The register that helper argument `i` stands in: r1 to r5 (42_jump.md R211). -/
def argReg (i : Fin 5) : Reg := ⟨i.val + 1, by omega⟩

/-- The result of an operation of a helper definition; a division by zero gives 0, and the remainder is then the
dividend. -/
def helperOp : HelperOp → Word → Word → Word
  | .add, a, b => a + b
  | .sub, a, b => a - b
  | .mul, a, b => a * b
  | .udiv, a, b => a / b
  | .umod, a, b => a % b
  | .and, a, b => a &&& b
  | .or, a, b => a ||| b
  | .xor, a, b => a ^^^ b
  | .shl, a, b => a <<< b.toNat
  | .shr, a, b => a >>> b.toNat
  | .eq, a, b => if a = b then 1 else 0
  | .ult, a, b => if a.toNat < b.toNat then 1 else 0
  | .slt, a, b => if a.toInt < b.toInt then 1 else 0

/-- What a helper is given: r1 to r5, each possibly unwritten, one data memory, and the byte order of the host
(42_jump.md R211, 20_memory.md R33). -/
structure HelperInput where
  args : Vector (Option Word) 5
  byte : Nat → Byte
  hostEndian : HostEndian

/-- The value of an expression of a helper definition; using an unwritten argument faults (42_jump.md R211). -/
def HelperExpr.eval (x : HelperInput) : HelperExpr → Except Fault Word
  | .const v => .ok v
  | .arg i =>
    match x.args.get i with
    | some v => .ok v
    | none => .error (.uninitRegister (argReg i))
  | .load n a => do
    let ea ← a.eval x
    return ofBytes x.hostEndian ((List.range n.bytes).map fun i => x.byte (byteAddr ea i))
  | .op o a b => do
    let v ← a.eval x
    let w ← b.eval x
    return helperOp o v w

/-- The bytes that a helper definition writes: their addresses and values. -/
def evalWrites (x : HelperInput) : List (HelperExpr × HelperExpr) → Except Fault (List (Word × Byte))
  | [] => .ok []
  | (a, b) :: ws => do
    let addr ← a.eval x
    let v ← b.eval x
    let rest ← evalWrites x ws
    return (addr, v.setWidth 8) :: rest

/-- Write single bytes, in order. -/
def writeCells (m : List Host.Cell) : List (Word × Byte) → List Host.Cell
  | [] => m
  | (a, b) :: ws => writeCells (Memory.set m a.toNat b) ws

/-- What a helper definition gives: a result and a new data memory, as the bytes in which it differs from the one that
the helper was given, or that the platform has not defined its effect (42_jump.md R211). -/
inductive HelperOutcome where
  | done (result : Word) (writes : List (Word × Byte))
  | undefined
deriving DecidableEq, Repr

/-- `h(x[1], x[2], x[3], x[4], x[5], mem)`: the helper as a function of its arguments and one data memory, or the fault
that it raises (42_jump.md R211, R212). -/
def HelperBody.run (x : HelperInput) : HelperBody → Except Fault HelperOutcome
  | .ret e ws => do
    let v ← e.eval x
    let bytes ← evalWrites x ws
    return .done v bytes
  | .fault f => .error f
  | .memoryFault e n k why => do
    let addr ← e.eval x
    throw (.memoryFault ⟨addr, n, k, why⟩)
  | .ite c yes no => do
    let v ← c.eval x
    if v = 0 then no.run x else yes.run x
  | .undefined => return .undefined

/-! ## Helper calls -/

/-- The arguments r1 to r5 of a helper call, each possibly unwritten (42_jump.md R211). -/
def State.helperArgs (s : State) : Vector (Option Word) 5 := #v[s.reg 1, s.reg 2, s.reg 3, s.reg 4, s.reg 5]

/-- What a byte of a shared region holds during the next helper call: the byte supplied for that call, or else a free
value (20_memory.md R47, 70_reset_and_hazards.md R314; log 33). -/
def State.snapshotByte (s : State) (a : Nat) : Byte :=
  (Memory.get (s.snapshots.headD []) a).getD (Config.snapshotByte s.snapshotCount a)

/-- The data memory that the next helper call is given: private bytes as the program left them, and shared bytes as other
agents left them, the same for the whole call, which is one step (70_reset_and_hazards.md R313, R314; log 33). -/
def State.helperByte (s : State) (a : Nat) : Byte := if s.sharedByte a then s.snapshotByte a else s.readByte a

/-- What a helper call is given (42_jump.md R211). -/
def State.helperInput (s : State) : HelperInput := ⟨s.helperArgs, s.helperByte, s.params.hostEndian⟩

/-- The state after the contents of shared regions for one helper call have been drawn (log 33). -/
def State.drawSnapshot (s : State) : State :=
  { s with snapshots := s.snapshots.tail, snapshotCount := s.snapshotCount + 1 }

/-- `HELPERS(id)` or `BTF_HELPERS(id)`, none where it is undefined (42_jump.md R212, R215). -/
def State.helper (s : State) (k : HelperKind) (id : Word32) : Option HelperBody :=
  match k with
  | .static => lookup s.helpers id
  | .btf => lookup s.btfHelpers id

/-- The `src_reg` value that names a kind of helper (60_exceptions.md R287). -/
def helperSrcReg : HelperKind → BitVec 4
  | .static => 0
  | .btf => 2

/-- What an undefined helper answers: the next answer supplied for it, or else a free value
(42_jump.md R211; log 10). -/
def State.helperNext (s : State) (k : HelperKind) (id : Word32) : HelperAnswer :=
  (lookup s.helperAnswers (k, id)).getD (Config.helperAnswer k id s.helperArgs s.mem s.helperCount)

/-- The state after one answer of an undefined helper has been drawn (log 10). -/
def State.drawHelper (s : State) (k : HelperKind) (id : Word32) : State :=
  { s with
    helperAnswers := s.helperAnswers.eraseP fun p => decide (p.1 = (k, id))
    helperCount := s.helperCount + 1 }

/-- The first unwritten register among the arguments that a helper uses (42_jump.md R211). -/
def State.unwrittenArg (s : State) : List (Fin 5) → Option Reg
  | [] => none
  | i :: is => if (s.reg (argReg i)).isNone then some (argReg i) else s.unwrittenArg is

/-- The state after a helper has returned: memory as it left it, r0 its result, r1 to r5 unwritten, r6 to r10 and
the frames as they were, the next slot (42_jump.md R211, R212). PRESUMED with the spec's D15 (log 10). -/
def State.helperReturn (s : State) (v : Word) (ws : List (Word × Byte)) : State :=
  (((s.withMem (writeCells s.mem ws)).clearArgs).setReg 0 v).advance 1

/-- The call of a helper whose effect is oracle input: it faults where it uses an unwritten argument or raises a fault,
and otherwise returns (42_jump.md R211, 70_reset_and_hazards.md R314; log 10). -/
def State.callUndefined (s : State) (k : HelperKind) (id : Word32) : Except Fault State :=
  let a := s.helperNext k id
  match s.unwrittenArg a.uses with
  | some r => .error (.uninitRegister r)
  | none =>
    match a.fails with
    | some f => .error f
    | none => .ok ((s.drawHelper k id).helperReturn a.result a.writes)

/-- A helper call (42_jump.md R211, R212, R215; 60_exceptions.md R294): an unknown identifier faults, a known helper is
applied to r1 to r5 and data memory. -/
def State.callHelper (s : State) (k : HelperKind) (id : Word32) : Except Fault State :=
  match s.helper k id with
  | none => .error (.unknownHelper (helperSrcReg k) id)
  | some h =>
    match h.run s.helperInput with
    | .error f => .error f
    | .ok (.done v ws) => .ok (s.drawSnapshot.helperReturn v ws)
    | .ok .undefined => s.drawSnapshot.callUndefined k id

/-! ## Platform functions of the 64-bit immediates (45_imm64.md R268) -/

/-- `MAP_BY_FD`. -/
def State.mapByFd (s : State) (imm : Word32) : Option Word := lookup s.params.mapByFd imm

/-- `MAP_BY_IDX`. -/
def State.mapByIdx (s : State) (imm : Word32) : Option Word := lookup s.params.mapByIdx imm

/-- `MAP_VAL`. -/
def State.mapVal (s : State) (m : Word) : Option Word := lookup s.params.mapVal m

/-- `VAR_ADDR`. -/
def State.varAddr (s : State) (imm : Word32) : Option Word := lookup s.params.varAddr imm

/-- `CODE_ADDR`, a function of the slot index and `imm` (45_imm64.md R274; log 24). -/
def State.codeAddr (s : State) (imm : Word32) : Option Word := lookup s.params.codeAddr (s.pc, imm)

end Sys2Proof.Machine
end

