-- ==== Sys2Proof/Machine/Operands.lean ====
section
/-! DEFINITION. The operand forms of the instructions, the arithmetic they share, and one shape of meaning per
operand form (30_encoding.md R60; 40_alu.md; 41_byteswap.md; 43_load_store.md; 44_atomic.md; 45_imm64.md). -/

namespace Sys2Proof.Machine

/-! ## Operands -/

/-- The K operand of a 64-bit operation: `sext_64(imm)` (30_encoding.md R60 (a), (c); log 28). -/
def immOperand64 (imm : Word32) : Word := imm.signExtend 64

/-- The operand of a 32-bit operation: bits 31:0 of a register (40_alu.md R72). -/
def low32 (v : Word) : Word32 := v.setWidth 32

/-- The result of a 32-bit operation in the register: zero-extended (10_state.md R22). -/
def zext32 (v : Word32) : Word := v.setWidth 64

/-- The effective address of a load, store or atomic: base plus sign-extended offset, modulo 2^64
(20_memory.md R35; log 30). -/
def effectiveAddress (base : Word) (off : BitVec 16) : Word := base + off.signExtend 64

/-- The low bytes of a value, zero-extended (20_memory.md R37, 44_atomic.md R242). -/
def lowBytes (n : Nat) (v : Word) : Word := BitVec.ofNat 64 (v.toNat % 2 ^ (8 * n))

/-! ## Shifts, division and modulo -/

/-- The shift count of a 64-bit operation: `src & 0x3F` (40_alu.md R76). -/
def shiftCount64 (b : Word) : Nat := (b &&& 0x3f#64).toNat

/-- The shift count of a 32-bit operation: `src & 0x1F` (40_alu.md R76). -/
def shiftCount32 (b : Word32) : Nat := (b &&& 0x1f#32).toNat

/-- LSH on 64 bits (40_alu.md R76). -/
def lsh64 (a b : Word) : Word := a <<< shiftCount64 b

/-- LSH on 32 bits (40_alu.md R76). -/
def lsh32 (a b : Word32) : Word32 := a <<< shiftCount32 b

/-- RSH on 64 bits: zeros enter (40_alu.md R76). -/
def rsh64 (a b : Word) : Word := a >>> shiftCount64 b

/-- RSH on 32 bits: zeros enter (40_alu.md R76). -/
def rsh32 (a b : Word32) : Word32 := a >>> shiftCount32 b

/-- ARSH on 64 bits: copies of bit 63 enter (40_alu.md R76). -/
def arsh64 (a b : Word) : Word := a.sshiftRight (shiftCount64 b)

/-- ARSH on 32 bits: copies of bit 31 enter (40_alu.md R76). -/
def arsh32 (a b : Word32) : Word32 := a.sshiftRight (shiftCount32 b)

/-- DIV: the unsigned quotient, 0 for a zero divisor (40_alu.md R69, R71). -/
def udiv {n : Nat} (a b : BitVec n) : BitVec n :=
  if b.toNat = 0 then 0#n else BitVec.ofNat n (a.toNat / b.toNat)

/-- MOD: the unsigned remainder, the dividend for a zero divisor (40_alu.md R69, R71). -/
def umod {n : Nat} (a b : BitVec n) : BitVec n :=
  if b.toNat = 0 then a else BitVec.ofNat n (a.toNat % b.toNat)

/-- Whether a signed division overflows: the most negative value by -1 (40_alu.md R75). -/
def signedOverflow {n : Nat} (a b : BitVec n) : Bool := a == BitVec.intMin n && b == BitVec.allOnes n

/-- SDIV: the quotient truncated toward zero, 0 for a zero divisor, `overflow` where the quotient does not fit
(40_alu.md R71, R74, R75; log 15). -/
def sdiv {n : Nat} (overflow a b : BitVec n) : BitVec n :=
  if b.toNat = 0 then 0#n
  else if signedOverflow a b then overflow
  else BitVec.ofInt n (a.toInt.tdiv b.toInt)

/-- SMOD: `a - b * trunc(a / b)`, the dividend for a zero divisor, `overflow` where the quotient does not fit
(40_alu.md R71, R74, R75; log 15). -/
def smod {n : Nat} (overflow a b : BitVec n) : BitVec n :=
  if b.toNat = 0 then a
  else if signedOverflow a b then overflow
  else BitVec.ofInt n (a.toInt - b.toInt * a.toInt.tdiv b.toInt)

/-! ## Sign extension of a low part, and byte order -/

/-- The low `k` bits of a value sign-extended to its width (40_alu.md R77, 43_load_store.md R218;
log 28). -/
def sextLow {n : Nat} (k : Nat) (v : BitVec n) : BitVec n := (v.setWidth k).signExtend n

/-- `bswapN` on the low `n` bytes of a value, zero-extended (00_scope.md R12, 41_byteswap.md R145;
log 20). -/
def swapBytes (n : Nat) (v : Word) : Word :=
  BitVec.ofNat 64 (ofBytesLittle (toBytesLittle n v.toNat).reverse)

/-- `leN` on the low `n` bytes (00_scope.md R12, 41_byteswap.md R144, R145). -/
def toLittleEndian (e : HostEndian) (n : Nat) (v : Word) : Word :=
  match e with
  | .little => lowBytes n v
  | .big => swapBytes n v

/-- `beN` on the low `n` bytes (00_scope.md R12, 41_byteswap.md R144, R145). -/
def toBigEndian (e : HostEndian) (n : Nat) (v : Word) : Word :=
  match e with
  | .little => swapBytes n v
  | .big => lowBytes n v

/-! ## Shapes of meaning: arithmetic (40_alu.md R79) -/

/-- A 64-bit operation on the destination and the immediate. -/
def alu64Imm (f : Word → Word → Word) (d : Reg) (imm : Word32) (s : State) : Except Fault State := do
  s.checkDest d
  let a ← s.readReg d
  return (s.setReg d (f a (immOperand64 imm))).advance 1

/-- A 64-bit operation on the destination and a source register. -/
def alu64Reg (f : Word → Word → Word) (d r : Reg) (s : State) : Except Fault State := do
  s.checkDest d
  let a ← s.readReg d
  let b ← s.readReg r
  return (s.setReg d (f a b)).advance 1

/-- A 32-bit operation on the destination and the immediate (40_alu.md R72). -/
def alu32Imm (f : Word32 → Word32 → Word32) (d : Reg) (imm : Word32) (s : State) : Except Fault State := do
  s.checkDest d
  let a ← s.readReg d
  return (s.setReg d (zext32 (f (low32 a) imm))).advance 1

/-- A 32-bit operation on the destination and a source register (40_alu.md R72). -/
def alu32Reg (f : Word32 → Word32 → Word32) (d r : Reg) (s : State) : Except Fault State := do
  s.checkDest d
  let a ← s.readReg d
  let b ← s.readReg r
  return (s.setReg d (zext32 (f (low32 a) (low32 b)))).advance 1

/-- An operation on the destination alone: NEG and the byte swaps. -/
def unary (f : Word → Word) (d : Reg) (s : State) : Except Fault State := do
  s.checkDest d
  let a ← s.readReg d
  return (s.setReg d (f a)).advance 1

/-- A move of a value: the destination is not read (60_exceptions.md R290). -/
def moveValue (v : Word) (d : Reg) (s : State) : Except Fault State := do
  s.checkDest d
  return (s.setReg d v).advance 1

/-- A move from a source register: the destination is not read (60_exceptions.md R290). -/
def moveReg (f : Word → Word) (d r : Reg) (s : State) : Except Fault State := do
  s.checkDest d
  let b ← s.readReg r
  return (s.setReg d (f b)).advance 1

/-! ## Shapes of meaning: loads and stores (43_load_store.md R222) -/

/-- A load of `n` bytes, extended by `ext`. -/
def loadInto (n : AccessSize) (ext : Word → Word) (d r : Reg) (off : BitVec 16) (s : State) :
    Except Fault State := do
  s.checkDest d
  let base ← s.readReg r
  let ea := effectiveAddress base off
  s.checkAccess ea n .read
  return ((s.afterLoad ea n).setReg d (ext (s.load ea n))).advance 1

/-- A store of the sign-extended immediate, truncated to `n` bytes (43_load_store.md R220). -/
def storeImm (n : AccessSize) (d : Reg) (off : BitVec 16) (imm : Word32) (s : State) : Except Fault State := do
  let base ← s.readReg d
  let ea := effectiveAddress base off
  s.checkAccess ea n .write
  return (s.store ea n (immOperand64 imm)).advance 1

/-- A store of a register, truncated to `n` bytes (20_memory.md R37). -/
def storeReg (n : AccessSize) (d r : Reg) (off : BitVec 16) (s : State) : Except Fault State := do
  let base ← s.readReg d
  let v ← s.readReg r
  let ea := effectiveAddress base off
  s.checkAccess ea n .write
  return (s.store ea n v).advance 1

/-! ## Shapes of meaning: atomics (44_atomic.md R238 to R244) -/

/-- An atomic read-modify-write without FETCH: no register is written. -/
def atomicModify (n : AccessSize) (f : Word → Word → Word) (d r : Reg) (off : BitVec 16) (s : State) :
    Except Fault State := do
  let base ← s.readReg d
  let v ← s.readReg r
  let ea := effectiveAddress base off
  s.checkAccess ea n .atomic
  return ((s.afterLoad ea n).store ea n (f (s.load ea n) (lowBytes n.bytes v))).advance 1

/-- An atomic read-modify-write with FETCH: the old value, zero-extended, goes to the source register
(44_atomic.md R240, R242; log 21). -/
def atomicFetch (n : AccessSize) (f : Word → Word → Word) (d r : Reg) (off : BitVec 16) (s : State) :
    Except Fault State := do
  s.checkDest r
  let base ← s.readReg d
  let v ← s.readReg r
  let ea := effectiveAddress base off
  s.checkAccess ea n .atomic
  let old := s.load ea n
  return (((s.afterLoad ea n).store ea n (f old (lowBytes n.bytes v))).setReg r old).advance 1

/-- An atomic compare and exchange with r0: a store only where the values match; the old value, zero-extended,
goes to r0 in either case (44_atomic.md R241, R242; log 21). -/
def atomicCompareExchange (n : AccessSize) (d r : Reg) (off : BitVec 16) (s : State) : Except Fault State := do
  let base ← s.readReg d
  let v ← s.readReg r
  let c ← s.readReg 0
  let ea := effectiveAddress base off
  s.checkAccess ea n .atomic
  let old := s.load ea n
  let read := s.afterLoad ea n
  let written := if old = lowBytes n.bytes c then read.store ea n (lowBytes n.bytes v) else read
  return (written.setReg 0 old).advance 1

/-! ## Shapes of meaning: 64-bit immediates (45_imm64.md R268, R269) -/

/-- A wide instruction that writes a constant. -/
def wideValue (v : Word) (d : Reg) (s : State) : Except Fault State := do
  s.checkDest d
  return (s.setReg d v).advance 2

/-- A wide instruction that writes what a platform function answers; where it has no value the instruction
faults (60_exceptions.md R295). -/
def wideLookup (subtype : BitVec 4) (imm : Word32) (v : Option Word) (d : Reg) (s : State) :
    Except Fault State := do
  s.checkDest d
  match v with
  | some a => return (s.setReg d a).advance 2
  | none => .error (.unknownPlatformObject subtype imm)

end Sys2Proof.Machine
end

