-- ==== Sys2Proof/Machine/Alu32.lean ====
section
/-! DEFINITION. The meanings of ALU (32-bit) arithmetic (40_alu.md R69 to R142). -/

namespace Sys2Proof.Machine

/-- `add32_imm` (40_alu.md R82). -/
def execAdd32Imm (d : Reg) (imm : Word32) (s : State) :
    Host.Outcome State Fault Refusal :=
  commit (alu32Imm (· + ·) d imm s)

/-- `add32_reg` (40_alu.md R83). -/
def execAdd32Reg (d r : Reg) (s : State) :
    Host.Outcome State Fault Refusal :=
  commit (alu32Reg (· + ·) d r s)

/-- `sub32_imm` (40_alu.md R86). -/
def execSub32Imm (d : Reg) (imm : Word32) (s : State) :
    Host.Outcome State Fault Refusal :=
  commit (alu32Imm (· - ·) d imm s)

/-- `sub32_reg` (40_alu.md R87). -/
def execSub32Reg (d r : Reg) (s : State) :
    Host.Outcome State Fault Refusal :=
  commit (alu32Reg (· - ·) d r s)

/-- `mul32_imm` (40_alu.md R90). -/
def execMul32Imm (d : Reg) (imm : Word32) (s : State) :
    Host.Outcome State Fault Refusal :=
  commit (alu32Imm (· * ·) d imm s)

/-- `mul32_reg` (40_alu.md R91). -/
def execMul32Reg (d r : Reg) (s : State) :
    Host.Outcome State Fault Refusal :=
  commit (alu32Reg (· * ·) d r s)

/-- `div32_imm` (40_alu.md R94). -/
def execDiv32Imm (d : Reg) (imm : Word32) (s : State) :
    Host.Outcome State Fault Refusal :=
  commit (alu32Imm udiv d imm s)

/-- `div32_reg` (40_alu.md R95). -/
def execDiv32Reg (d r : Reg) (s : State) :
    Host.Outcome State Fault Refusal :=
  commit (alu32Reg udiv d r s)

/-- `sdiv32_imm` (40_alu.md R98). -/
def execSdiv32Imm (d : Reg) (imm : Word32) (s : State) :
    Host.Outcome State Fault Refusal :=
  commit (alu32Imm (sdiv s.params.sdivOverflow.quot32) d imm s)

/-- `sdiv32_reg` (40_alu.md R99). -/
def execSdiv32Reg (d r : Reg) (s : State) :
    Host.Outcome State Fault Refusal :=
  commit (alu32Reg (sdiv s.params.sdivOverflow.quot32) d r s)

/-- `or32_imm` (40_alu.md R102). -/
def execOr32Imm (d : Reg) (imm : Word32) (s : State) :
    Host.Outcome State Fault Refusal :=
  commit (alu32Imm (· ||| ·) d imm s)

/-- `or32_reg` (40_alu.md R103). -/
def execOr32Reg (d r : Reg) (s : State) :
    Host.Outcome State Fault Refusal :=
  commit (alu32Reg (· ||| ·) d r s)

/-- `and32_imm` (40_alu.md R106). -/
def execAnd32Imm (d : Reg) (imm : Word32) (s : State) :
    Host.Outcome State Fault Refusal :=
  commit (alu32Imm (· &&& ·) d imm s)

/-- `and32_reg` (40_alu.md R107). -/
def execAnd32Reg (d r : Reg) (s : State) :
    Host.Outcome State Fault Refusal :=
  commit (alu32Reg (· &&& ·) d r s)

/-- `lsh32_imm` (40_alu.md R110). -/
def execLsh32Imm (d : Reg) (imm : Word32) (s : State) :
    Host.Outcome State Fault Refusal :=
  commit (alu32Imm lsh32 d imm s)

/-- `lsh32_reg` (40_alu.md R111). -/
def execLsh32Reg (d r : Reg) (s : State) :
    Host.Outcome State Fault Refusal :=
  commit (alu32Reg lsh32 d r s)

/-- `rsh32_imm` (40_alu.md R114). -/
def execRsh32Imm (d : Reg) (imm : Word32) (s : State) :
    Host.Outcome State Fault Refusal :=
  commit (alu32Imm rsh32 d imm s)

/-- `rsh32_reg` (40_alu.md R115). -/
def execRsh32Reg (d r : Reg) (s : State) :
    Host.Outcome State Fault Refusal :=
  commit (alu32Reg rsh32 d r s)

/-- `mod32_imm` (40_alu.md R118). -/
def execMod32Imm (d : Reg) (imm : Word32) (s : State) :
    Host.Outcome State Fault Refusal :=
  commit (alu32Imm umod d imm s)

/-- `mod32_reg` (40_alu.md R119). -/
def execMod32Reg (d r : Reg) (s : State) :
    Host.Outcome State Fault Refusal :=
  commit (alu32Reg umod d r s)

/-- `smod32_imm` (40_alu.md R122). -/
def execSmod32Imm (d : Reg) (imm : Word32) (s : State) :
    Host.Outcome State Fault Refusal :=
  commit (alu32Imm (smod s.params.sdivOverflow.rem32) d imm s)

/-- `smod32_reg` (40_alu.md R123). -/
def execSmod32Reg (d r : Reg) (s : State) :
    Host.Outcome State Fault Refusal :=
  commit (alu32Reg (smod s.params.sdivOverflow.rem32) d r s)

/-- `xor32_imm` (40_alu.md R126). -/
def execXor32Imm (d : Reg) (imm : Word32) (s : State) :
    Host.Outcome State Fault Refusal :=
  commit (alu32Imm (· ^^^ ·) d imm s)

/-- `xor32_reg` (40_alu.md R127). -/
def execXor32Reg (d r : Reg) (s : State) :
    Host.Outcome State Fault Refusal :=
  commit (alu32Reg (· ^^^ ·) d r s)

/-- `mov32_imm` (40_alu.md R130). -/
def execMov32Imm (d : Reg) (imm : Word32) (s : State) :
    Host.Outcome State Fault Refusal :=
  commit (moveValue (zext32 imm) d s)

/-- `mov32_reg` (40_alu.md R131). -/
def execMov32Reg (d r : Reg) (s : State) :
    Host.Outcome State Fault Refusal :=
  commit (moveReg (fun v => zext32 (low32 v)) d r s)

/-- `arsh32_imm` (40_alu.md R134). -/
def execArsh32Imm (d : Reg) (imm : Word32) (s : State) :
    Host.Outcome State Fault Refusal :=
  commit (alu32Imm arsh32 d imm s)

/-- `arsh32_reg` (40_alu.md R135). -/
def execArsh32Reg (d r : Reg) (s : State) :
    Host.Outcome State Fault Refusal :=
  commit (alu32Reg arsh32 d r s)

/-- `neg32` (40_alu.md R137). -/
def execNeg32 (d : Reg) (s : State) :
    Host.Outcome State Fault Refusal :=
  commit (unary (fun v => zext32 (0#32 - low32 v)) d s)

/-- `movsx32_8` (40_alu.md R141). -/
def execMovsx32From8 (d r : Reg) (s : State) :
    Host.Outcome State Fault Refusal :=
  commit (moveReg (fun v => zext32 (sextLow 8 (low32 v))) d r s)

/-- `movsx32_16` (40_alu.md R142). -/
def execMovsx32From16 (d r : Reg) (s : State) :
    Host.Outcome State Fault Refusal :=
  commit (moveReg (fun v => zext32 (sextLow 16 (low32 v))) d r s)

end Sys2Proof.Machine
end

