-- ==== Sys2Proof/Machine/Alu64.lean ====
section
/-! DEFINITION. The meanings of ALU64 arithmetic (40_alu.md R69 to R142). -/

namespace Sys2Proof.Machine

/-- `add64_imm` (40_alu.md R80). -/
def execAdd64Imm (d : Reg) (imm : Word32) (s : State) :
    Host.Outcome State Fault Refusal :=
  commit (alu64Imm (· + ·) d imm s)

/-- `add64_reg` (40_alu.md R81). -/
def execAdd64Reg (d r : Reg) (s : State) :
    Host.Outcome State Fault Refusal :=
  commit (alu64Reg (· + ·) d r s)

/-- `sub64_imm` (40_alu.md R84). -/
def execSub64Imm (d : Reg) (imm : Word32) (s : State) :
    Host.Outcome State Fault Refusal :=
  commit (alu64Imm (· - ·) d imm s)

/-- `sub64_reg` (40_alu.md R85). -/
def execSub64Reg (d r : Reg) (s : State) :
    Host.Outcome State Fault Refusal :=
  commit (alu64Reg (· - ·) d r s)

/-- `mul64_imm` (40_alu.md R88). -/
def execMul64Imm (d : Reg) (imm : Word32) (s : State) :
    Host.Outcome State Fault Refusal :=
  commit (alu64Imm (· * ·) d imm s)

/-- `mul64_reg` (40_alu.md R89). -/
def execMul64Reg (d r : Reg) (s : State) :
    Host.Outcome State Fault Refusal :=
  commit (alu64Reg (· * ·) d r s)

/-- `div64_imm` (40_alu.md R92). -/
def execDiv64Imm (d : Reg) (imm : Word32) (s : State) :
    Host.Outcome State Fault Refusal :=
  commit (alu64Imm udiv d imm s)

/-- `div64_reg` (40_alu.md R93). -/
def execDiv64Reg (d r : Reg) (s : State) :
    Host.Outcome State Fault Refusal :=
  commit (alu64Reg udiv d r s)

/-- `sdiv64_imm` (40_alu.md R96). -/
def execSdiv64Imm (d : Reg) (imm : Word32) (s : State) :
    Host.Outcome State Fault Refusal :=
  commit (alu64Imm (sdiv s.params.sdivOverflow.quot64) d imm s)

/-- `sdiv64_reg` (40_alu.md R97). -/
def execSdiv64Reg (d r : Reg) (s : State) :
    Host.Outcome State Fault Refusal :=
  commit (alu64Reg (sdiv s.params.sdivOverflow.quot64) d r s)

/-- `or64_imm` (40_alu.md R100). -/
def execOr64Imm (d : Reg) (imm : Word32) (s : State) :
    Host.Outcome State Fault Refusal :=
  commit (alu64Imm (· ||| ·) d imm s)

/-- `or64_reg` (40_alu.md R101). -/
def execOr64Reg (d r : Reg) (s : State) :
    Host.Outcome State Fault Refusal :=
  commit (alu64Reg (· ||| ·) d r s)

/-- `and64_imm` (40_alu.md R104). -/
def execAnd64Imm (d : Reg) (imm : Word32) (s : State) :
    Host.Outcome State Fault Refusal :=
  commit (alu64Imm (· &&& ·) d imm s)

/-- `and64_reg` (40_alu.md R105). -/
def execAnd64Reg (d r : Reg) (s : State) :
    Host.Outcome State Fault Refusal :=
  commit (alu64Reg (· &&& ·) d r s)

/-- `lsh64_imm` (40_alu.md R108). -/
def execLsh64Imm (d : Reg) (imm : Word32) (s : State) :
    Host.Outcome State Fault Refusal :=
  commit (alu64Imm lsh64 d imm s)

/-- `lsh64_reg` (40_alu.md R109). -/
def execLsh64Reg (d r : Reg) (s : State) :
    Host.Outcome State Fault Refusal :=
  commit (alu64Reg lsh64 d r s)

/-- `rsh64_imm` (40_alu.md R112). -/
def execRsh64Imm (d : Reg) (imm : Word32) (s : State) :
    Host.Outcome State Fault Refusal :=
  commit (alu64Imm rsh64 d imm s)

/-- `rsh64_reg` (40_alu.md R113). -/
def execRsh64Reg (d r : Reg) (s : State) :
    Host.Outcome State Fault Refusal :=
  commit (alu64Reg rsh64 d r s)

/-- `mod64_imm` (40_alu.md R116). -/
def execMod64Imm (d : Reg) (imm : Word32) (s : State) :
    Host.Outcome State Fault Refusal :=
  commit (alu64Imm umod d imm s)

/-- `mod64_reg` (40_alu.md R117). -/
def execMod64Reg (d r : Reg) (s : State) :
    Host.Outcome State Fault Refusal :=
  commit (alu64Reg umod d r s)

/-- `smod64_imm` (40_alu.md R120). -/
def execSmod64Imm (d : Reg) (imm : Word32) (s : State) :
    Host.Outcome State Fault Refusal :=
  commit (alu64Imm (smod s.params.sdivOverflow.rem64) d imm s)

/-- `smod64_reg` (40_alu.md R121). -/
def execSmod64Reg (d r : Reg) (s : State) :
    Host.Outcome State Fault Refusal :=
  commit (alu64Reg (smod s.params.sdivOverflow.rem64) d r s)

/-- `xor64_imm` (40_alu.md R124). -/
def execXor64Imm (d : Reg) (imm : Word32) (s : State) :
    Host.Outcome State Fault Refusal :=
  commit (alu64Imm (· ^^^ ·) d imm s)

/-- `xor64_reg` (40_alu.md R125). -/
def execXor64Reg (d r : Reg) (s : State) :
    Host.Outcome State Fault Refusal :=
  commit (alu64Reg (· ^^^ ·) d r s)

/-- `mov64_imm` (40_alu.md R128). -/
def execMov64Imm (d : Reg) (imm : Word32) (s : State) :
    Host.Outcome State Fault Refusal :=
  commit (moveValue (immOperand64 imm) d s)

/-- `mov64_reg` (40_alu.md R129). -/
def execMov64Reg (d r : Reg) (s : State) :
    Host.Outcome State Fault Refusal :=
  commit (moveReg (fun v => v) d r s)

/-- `arsh64_imm` (40_alu.md R132). -/
def execArsh64Imm (d : Reg) (imm : Word32) (s : State) :
    Host.Outcome State Fault Refusal :=
  commit (alu64Imm arsh64 d imm s)

/-- `arsh64_reg` (40_alu.md R133). -/
def execArsh64Reg (d r : Reg) (s : State) :
    Host.Outcome State Fault Refusal :=
  commit (alu64Reg arsh64 d r s)

/-- `neg64` (40_alu.md R136). -/
def execNeg64 (d : Reg) (s : State) :
    Host.Outcome State Fault Refusal :=
  commit (unary (fun v => 0#64 - v) d s)

/-- `movsx64_8` (40_alu.md R138). -/
def execMovsx64From8 (d r : Reg) (s : State) :
    Host.Outcome State Fault Refusal :=
  commit (moveReg (sextLow 8) d r s)

/-- `movsx64_16` (40_alu.md R139). -/
def execMovsx64From16 (d r : Reg) (s : State) :
    Host.Outcome State Fault Refusal :=
  commit (moveReg (sextLow 16) d r s)

/-- `movsx64_32` (40_alu.md R140). -/
def execMovsx64From32 (d r : Reg) (s : State) :
    Host.Outcome State Fault Refusal :=
  commit (moveReg (sextLow 32) d r s)

end Sys2Proof.Machine
end

