-- ==== Sys2Proof/Machine/Atomic.lean ====
section
/-! DEFINITION. The meanings of the atomic operations (44_atomic.md R238 to R264). -/

namespace Sys2Proof.Machine

/-- `atomic_add32` (44_atomic.md R245). -/
def execAtomicAdd32 (d r : Reg) (off : BitVec 16) (s : State) :
    Host.Outcome State Fault Refusal :=
  commit (atomicModify .w (· + ·) d r off s)

/-- `atomic_fetch_add32` (44_atomic.md R246). -/
def execAtomicFetchAdd32 (d r : Reg) (off : BitVec 16) (s : State) :
    Host.Outcome State Fault Refusal :=
  commit (atomicFetch .w (· + ·) d r off s)

/-- `atomic_or32` (44_atomic.md R247). -/
def execAtomicOr32 (d r : Reg) (off : BitVec 16) (s : State) :
    Host.Outcome State Fault Refusal :=
  commit (atomicModify .w (· ||| ·) d r off s)

/-- `atomic_fetch_or32` (44_atomic.md R248). -/
def execAtomicFetchOr32 (d r : Reg) (off : BitVec 16) (s : State) :
    Host.Outcome State Fault Refusal :=
  commit (atomicFetch .w (· ||| ·) d r off s)

/-- `atomic_and32` (44_atomic.md R249). -/
def execAtomicAnd32 (d r : Reg) (off : BitVec 16) (s : State) :
    Host.Outcome State Fault Refusal :=
  commit (atomicModify .w (· &&& ·) d r off s)

/-- `atomic_fetch_and32` (44_atomic.md R250). -/
def execAtomicFetchAnd32 (d r : Reg) (off : BitVec 16) (s : State) :
    Host.Outcome State Fault Refusal :=
  commit (atomicFetch .w (· &&& ·) d r off s)

/-- `atomic_xor32` (44_atomic.md R251). -/
def execAtomicXor32 (d r : Reg) (off : BitVec 16) (s : State) :
    Host.Outcome State Fault Refusal :=
  commit (atomicModify .w (· ^^^ ·) d r off s)

/-- `atomic_fetch_xor32` (44_atomic.md R252). -/
def execAtomicFetchXor32 (d r : Reg) (off : BitVec 16) (s : State) :
    Host.Outcome State Fault Refusal :=
  commit (atomicFetch .w (· ^^^ ·) d r off s)

/-- `atomic_xchg32` (44_atomic.md R253). -/
def execAtomicXchg32 (d r : Reg) (off : BitVec 16) (s : State) :
    Host.Outcome State Fault Refusal :=
  commit (atomicFetch .w (fun _ v => v) d r off s)

/-- `atomic_cmpxchg32` (44_atomic.md R254). -/
def execAtomicCmpxchg32 (d r : Reg) (off : BitVec 16) (s : State) :
    Host.Outcome State Fault Refusal :=
  commit (atomicCompareExchange .w d r off s)

/-- `atomic_add64` (44_atomic.md R255). -/
def execAtomicAdd64 (d r : Reg) (off : BitVec 16) (s : State) :
    Host.Outcome State Fault Refusal :=
  commit (atomicModify .dw (· + ·) d r off s)

/-- `atomic_fetch_add64` (44_atomic.md R256). -/
def execAtomicFetchAdd64 (d r : Reg) (off : BitVec 16) (s : State) :
    Host.Outcome State Fault Refusal :=
  commit (atomicFetch .dw (· + ·) d r off s)

/-- `atomic_or64` (44_atomic.md R257). -/
def execAtomicOr64 (d r : Reg) (off : BitVec 16) (s : State) :
    Host.Outcome State Fault Refusal :=
  commit (atomicModify .dw (· ||| ·) d r off s)

/-- `atomic_fetch_or64` (44_atomic.md R258). -/
def execAtomicFetchOr64 (d r : Reg) (off : BitVec 16) (s : State) :
    Host.Outcome State Fault Refusal :=
  commit (atomicFetch .dw (· ||| ·) d r off s)

/-- `atomic_and64` (44_atomic.md R259). -/
def execAtomicAnd64 (d r : Reg) (off : BitVec 16) (s : State) :
    Host.Outcome State Fault Refusal :=
  commit (atomicModify .dw (· &&& ·) d r off s)

/-- `atomic_fetch_and64` (44_atomic.md R260). -/
def execAtomicFetchAnd64 (d r : Reg) (off : BitVec 16) (s : State) :
    Host.Outcome State Fault Refusal :=
  commit (atomicFetch .dw (· &&& ·) d r off s)

/-- `atomic_xor64` (44_atomic.md R261). -/
def execAtomicXor64 (d r : Reg) (off : BitVec 16) (s : State) :
    Host.Outcome State Fault Refusal :=
  commit (atomicModify .dw (· ^^^ ·) d r off s)

/-- `atomic_fetch_xor64` (44_atomic.md R262). -/
def execAtomicFetchXor64 (d r : Reg) (off : BitVec 16) (s : State) :
    Host.Outcome State Fault Refusal :=
  commit (atomicFetch .dw (· ^^^ ·) d r off s)

/-- `atomic_xchg64` (44_atomic.md R263). -/
def execAtomicXchg64 (d r : Reg) (off : BitVec 16) (s : State) :
    Host.Outcome State Fault Refusal :=
  commit (atomicFetch .dw (fun _ v => v) d r off s)

/-- `atomic_cmpxchg64` (44_atomic.md R264). -/
def execAtomicCmpxchg64 (d r : Reg) (off : BitVec 16) (s : State) :
    Host.Outcome State Fault Refusal :=
  commit (atomicCompareExchange .dw d r off s)

end Sys2Proof.Machine
end

