-- ==== Sys2Proof/Machine/ByteSwap.lean ====
section
/-! DEFINITION. The meanings of the byte swaps (41_byteswap.md R143 to R156). -/

namespace Sys2Proof.Machine

/-- `le16` (41_byteswap.md R148). -/
def execLe16 (d : Reg) (s : State) :
    Host.Outcome State Fault Refusal :=
  commit (unary (toLittleEndian s.params.hostEndian 2) d s)

/-- `le32` (41_byteswap.md R149). -/
def execLe32 (d : Reg) (s : State) :
    Host.Outcome State Fault Refusal :=
  commit (unary (toLittleEndian s.params.hostEndian 4) d s)

/-- `le64` (41_byteswap.md R150). -/
def execLe64 (d : Reg) (s : State) :
    Host.Outcome State Fault Refusal :=
  commit (unary (toLittleEndian s.params.hostEndian 8) d s)

/-- `be16` (41_byteswap.md R151). -/
def execBe16 (d : Reg) (s : State) :
    Host.Outcome State Fault Refusal :=
  commit (unary (toBigEndian s.params.hostEndian 2) d s)

/-- `be32` (41_byteswap.md R152). -/
def execBe32 (d : Reg) (s : State) :
    Host.Outcome State Fault Refusal :=
  commit (unary (toBigEndian s.params.hostEndian 4) d s)

/-- `be64` (41_byteswap.md R153). -/
def execBe64 (d : Reg) (s : State) :
    Host.Outcome State Fault Refusal :=
  commit (unary (toBigEndian s.params.hostEndian 8) d s)

/-- `bswap16` (41_byteswap.md R154). -/
def execBswap16 (d : Reg) (s : State) :
    Host.Outcome State Fault Refusal :=
  commit (unary (swapBytes 2) d s)

/-- `bswap32` (41_byteswap.md R155). -/
def execBswap32 (d : Reg) (s : State) :
    Host.Outcome State Fault Refusal :=
  commit (unary (swapBytes 4) d s)

/-- `bswap64` (41_byteswap.md R156). -/
def execBswap64 (d : Reg) (s : State) :
    Host.Outcome State Fault Refusal :=
  commit (unary (swapBytes 8) d s)

end Sys2Proof.Machine
end

