-- ==== Sys2Proof/Machine/Call.lean ====
section
/-! DEFINITION. The meanings of the calls and `exit` (42_jump.md R210 to R216). -/

namespace Sys2Proof.Machine

/-- `call_helper` (42_jump.md R212). -/
def execCallHelper (imm : Word32) (s : State) :
    Host.Outcome State Fault Refusal :=
  commit (s.callHelper .static imm)

/-- `call_local` (42_jump.md R214). -/
def execCallLocal (imm : Word32) (s : State) :
    Host.Outcome State Fault Refusal :=
  commit (s.callLocal imm.toInt)

/-- `call_btf` (42_jump.md R215). -/
def execCallBtf (imm : Word32) (s : State) :
    Host.Outcome State Fault Refusal :=
  commit (s.callHelper .btf imm)

/-- `exit` (42_jump.md R216). -/
def execExit (s : State) :
    Host.Outcome State Fault Refusal :=
  commit (s.leaveFunction)

end Sys2Proof.Machine
end

