-- ==== Sys2Proof/Machine/Imm64.lean ====
section
/-! DEFINITION. The meanings of the 64-bit immediates (45_imm64.md R265 to R276). -/

namespace Sys2Proof.Machine

/-- `lddw` (45_imm64.md R270). -/
def execLddw (d : Reg) (imm : Word32) (next : Word32) (s : State) :
    Host.Outcome State Fault Refusal :=
  commit (wideValue (next ++ imm) d s)

/-- `ld_map_fd` (45_imm64.md R271). -/
def execLdMapFd (d : Reg) (imm : Word32) (s : State) :
    Host.Outcome State Fault Refusal :=
  commit (wideLookup 1 imm (s.mapByFd imm) d s)

/-- `ld_map_val_fd` (45_imm64.md R272). -/
def execLdMapValFd (d : Reg) (imm : Word32) (next : Word32) (s : State) :
    Host.Outcome State Fault Refusal :=
  commit (wideLookup 2 imm (((s.mapByFd imm).bind s.mapVal).map (fun a => a + zext32 next)) d s)

/-- `ld_var_addr` (45_imm64.md R273). -/
def execLdVarAddr (d : Reg) (imm : Word32) (s : State) :
    Host.Outcome State Fault Refusal :=
  commit (wideLookup 3 imm (s.varAddr imm) d s)

/-- `ld_code_addr` (45_imm64.md R274). -/
def execLdCodeAddr (d : Reg) (imm : Word32) (s : State) :
    Host.Outcome State Fault Refusal :=
  commit (wideLookup 4 imm (s.codeAddr imm) d s)

/-- `ld_map_idx` (45_imm64.md R275). -/
def execLdMapIdx (d : Reg) (imm : Word32) (s : State) :
    Host.Outcome State Fault Refusal :=
  commit (wideLookup 5 imm (s.mapByIdx imm) d s)

/-- `ld_map_val_idx` (45_imm64.md R276). -/
def execLdMapValIdx (d : Reg) (imm : Word32) (next : Word32) (s : State) :
    Host.Outcome State Fault Refusal :=
  commit (wideLookup 6 imm (((s.mapByIdx imm).bind s.mapVal).map (fun a => a + zext32 next)) d s)

end Sys2Proof.Machine
end

