-- ==== Sys2Proof/Machine/Flags.lean ====
section
/-! DEFINITION. The machine has no condition flags (10_state.md R24): no instruction computes one. What decides
a conditional jump is a comparison of its two operands, made here for both widths (42_jump.md R157, R160). -/

namespace Sys2Proof.Machine

/-- JEQ: `dst == src`. -/
def condEq {n : Nat} (a b : BitVec n) : Bool := decide (a.toNat = b.toNat)

/-- JNE: `dst != src`. -/
def condNe {n : Nat} (a b : BitVec n) : Bool := decide (a.toNat ≠ b.toNat)

/-- JGT: `dst > src`, unsigned. -/
def condGt {n : Nat} (a b : BitVec n) : Bool := decide (b.toNat < a.toNat)

/-- JGE: `dst >= src`, unsigned. -/
def condGe {n : Nat} (a b : BitVec n) : Bool := decide (b.toNat ≤ a.toNat)

/-- JLT: `dst < src`, unsigned. -/
def condLt {n : Nat} (a b : BitVec n) : Bool := decide (a.toNat < b.toNat)

/-- JLE: `dst <= src`, unsigned. -/
def condLe {n : Nat} (a b : BitVec n) : Bool := decide (a.toNat ≤ b.toNat)

/-- JSGT: `dst > src`, signed. -/
def condSgt {n : Nat} (a b : BitVec n) : Bool := decide (b.toInt < a.toInt)

/-- JSGE: `dst >= src`, signed. -/
def condSge {n : Nat} (a b : BitVec n) : Bool := decide (b.toInt ≤ a.toInt)

/-- JSLT: `dst < src`, signed. -/
def condSlt {n : Nat} (a b : BitVec n) : Bool := decide (a.toInt < b.toInt)

/-- JSLE: `dst <= src`, signed. -/
def condSle {n : Nat} (a b : BitVec n) : Bool := decide (a.toInt ≤ b.toInt)

/-- JSET: `dst & src` is not zero. -/
def condSet {n : Nat} (a b : BitVec n) : Bool := decide ((a &&& b).toNat ≠ 0)

/-- The end of a conditional jump: taken, the target is checked; not taken, it is not and the next slot follows
(42_jump.md R158, R159). -/
def branch (taken : Bool) (off : BitVec 16) (s : State) : Except Fault State :=
  if taken then s.jump off.toInt else .ok (s.advance 1)

/-- A conditional jump of class JMP against the immediate (42_jump.md R160). -/
def jump64Imm (c : Word → Word → Bool) (d : Reg) (imm : Word32) (off : BitVec 16) (s : State) :
    Except Fault State := do
  let a ← s.readReg d
  branch (c a (immOperand64 imm)) off s

/-- A conditional jump of class JMP against a register (42_jump.md R160). -/
def jump64Reg (c : Word → Word → Bool) (d r : Reg) (off : BitVec 16) (s : State) : Except Fault State := do
  let a ← s.readReg d
  let b ← s.readReg r
  branch (c a b) off s

/-- A conditional jump of class JMP32 against the immediate (42_jump.md R160). -/
def jump32Imm (c : Word32 → Word32 → Bool) (d : Reg) (imm : Word32) (off : BitVec 16) (s : State) :
    Except Fault State := do
  let a ← s.readReg d
  branch (c (low32 a) imm) off s

/-- A conditional jump of class JMP32 against a register (42_jump.md R160). -/
def jump32Reg (c : Word32 → Word32 → Bool) (d r : Reg) (off : BitVec 16) (s : State) : Except Fault State := do
  let a ← s.readReg d
  let b ← s.readReg r
  branch (c (low32 a) (low32 b)) off s

end Sys2Proof.Machine
end

