-- ==== Sys2Proof/Machine/Jump.lean ====
section
/-! DEFINITION. The meanings of the jumps (42_jump.md R157 to R209). -/

namespace Sys2Proof.Machine

/-- `ja` (42_jump.md R164). -/
def execJa (off : BitVec 16) (s : State) :
    Host.Outcome State Fault Refusal :=
  commit (s.jump off.toInt)

/-- `ja32` (42_jump.md R165). -/
def execJa32 (imm : Word32) (s : State) :
    Host.Outcome State Fault Refusal :=
  commit (s.jump imm.toInt)

/-- `jeq64_imm` (42_jump.md R166). -/
def execJeq64Imm (d : Reg) (imm : Word32) (off : BitVec 16) (s : State) :
    Host.Outcome State Fault Refusal :=
  commit (jump64Imm condEq d imm off s)

/-- `jeq64_reg` (42_jump.md R167). -/
def execJeq64Reg (d r : Reg) (off : BitVec 16) (s : State) :
    Host.Outcome State Fault Refusal :=
  commit (jump64Reg condEq d r off s)

/-- `jeq32_imm` (42_jump.md R168). -/
def execJeq32Imm (d : Reg) (imm : Word32) (off : BitVec 16) (s : State) :
    Host.Outcome State Fault Refusal :=
  commit (jump32Imm condEq d imm off s)

/-- `jeq32_reg` (42_jump.md R169). -/
def execJeq32Reg (d r : Reg) (off : BitVec 16) (s : State) :
    Host.Outcome State Fault Refusal :=
  commit (jump32Reg condEq d r off s)

/-- `jgt64_imm` (42_jump.md R170). -/
def execJgt64Imm (d : Reg) (imm : Word32) (off : BitVec 16) (s : State) :
    Host.Outcome State Fault Refusal :=
  commit (jump64Imm condGt d imm off s)

/-- `jgt64_reg` (42_jump.md R171). -/
def execJgt64Reg (d r : Reg) (off : BitVec 16) (s : State) :
    Host.Outcome State Fault Refusal :=
  commit (jump64Reg condGt d r off s)

/-- `jgt32_imm` (42_jump.md R172). -/
def execJgt32Imm (d : Reg) (imm : Word32) (off : BitVec 16) (s : State) :
    Host.Outcome State Fault Refusal :=
  commit (jump32Imm condGt d imm off s)

/-- `jgt32_reg` (42_jump.md R173). -/
def execJgt32Reg (d r : Reg) (off : BitVec 16) (s : State) :
    Host.Outcome State Fault Refusal :=
  commit (jump32Reg condGt d r off s)

/-- `jge64_imm` (42_jump.md R174). -/
def execJge64Imm (d : Reg) (imm : Word32) (off : BitVec 16) (s : State) :
    Host.Outcome State Fault Refusal :=
  commit (jump64Imm condGe d imm off s)

/-- `jge64_reg` (42_jump.md R175). -/
def execJge64Reg (d r : Reg) (off : BitVec 16) (s : State) :
    Host.Outcome State Fault Refusal :=
  commit (jump64Reg condGe d r off s)

/-- `jge32_imm` (42_jump.md R176). -/
def execJge32Imm (d : Reg) (imm : Word32) (off : BitVec 16) (s : State) :
    Host.Outcome State Fault Refusal :=
  commit (jump32Imm condGe d imm off s)

/-- `jge32_reg` (42_jump.md R177). -/
def execJge32Reg (d r : Reg) (off : BitVec 16) (s : State) :
    Host.Outcome State Fault Refusal :=
  commit (jump32Reg condGe d r off s)

/-- `jset64_imm` (42_jump.md R178). -/
def execJset64Imm (d : Reg) (imm : Word32) (off : BitVec 16) (s : State) :
    Host.Outcome State Fault Refusal :=
  commit (jump64Imm condSet d imm off s)

/-- `jset64_reg` (42_jump.md R179). -/
def execJset64Reg (d r : Reg) (off : BitVec 16) (s : State) :
    Host.Outcome State Fault Refusal :=
  commit (jump64Reg condSet d r off s)

/-- `jset32_imm` (42_jump.md R180). -/
def execJset32Imm (d : Reg) (imm : Word32) (off : BitVec 16) (s : State) :
    Host.Outcome State Fault Refusal :=
  commit (jump32Imm condSet d imm off s)

/-- `jset32_reg` (42_jump.md R181). -/
def execJset32Reg (d r : Reg) (off : BitVec 16) (s : State) :
    Host.Outcome State Fault Refusal :=
  commit (jump32Reg condSet d r off s)

/-- `jne64_imm` (42_jump.md R182). -/
def execJne64Imm (d : Reg) (imm : Word32) (off : BitVec 16) (s : State) :
    Host.Outcome State Fault Refusal :=
  commit (jump64Imm condNe d imm off s)

/-- `jne64_reg` (42_jump.md R183). -/
def execJne64Reg (d r : Reg) (off : BitVec 16) (s : State) :
    Host.Outcome State Fault Refusal :=
  commit (jump64Reg condNe d r off s)

/-- `jne32_imm` (42_jump.md R184). -/
def execJne32Imm (d : Reg) (imm : Word32) (off : BitVec 16) (s : State) :
    Host.Outcome State Fault Refusal :=
  commit (jump32Imm condNe d imm off s)

/-- `jne32_reg` (42_jump.md R185). -/
def execJne32Reg (d r : Reg) (off : BitVec 16) (s : State) :
    Host.Outcome State Fault Refusal :=
  commit (jump32Reg condNe d r off s)

/-- `jsgt64_imm` (42_jump.md R186). -/
def execJsgt64Imm (d : Reg) (imm : Word32) (off : BitVec 16) (s : State) :
    Host.Outcome State Fault Refusal :=
  commit (jump64Imm condSgt d imm off s)

/-- `jsgt64_reg` (42_jump.md R187). -/
def execJsgt64Reg (d r : Reg) (off : BitVec 16) (s : State) :
    Host.Outcome State Fault Refusal :=
  commit (jump64Reg condSgt d r off s)

/-- `jsgt32_imm` (42_jump.md R188). -/
def execJsgt32Imm (d : Reg) (imm : Word32) (off : BitVec 16) (s : State) :
    Host.Outcome State Fault Refusal :=
  commit (jump32Imm condSgt d imm off s)

/-- `jsgt32_reg` (42_jump.md R189). -/
def execJsgt32Reg (d r : Reg) (off : BitVec 16) (s : State) :
    Host.Outcome State Fault Refusal :=
  commit (jump32Reg condSgt d r off s)

/-- `jsge64_imm` (42_jump.md R190). -/
def execJsge64Imm (d : Reg) (imm : Word32) (off : BitVec 16) (s : State) :
    Host.Outcome State Fault Refusal :=
  commit (jump64Imm condSge d imm off s)

/-- `jsge64_reg` (42_jump.md R191). -/
def execJsge64Reg (d r : Reg) (off : BitVec 16) (s : State) :
    Host.Outcome State Fault Refusal :=
  commit (jump64Reg condSge d r off s)

/-- `jsge32_imm` (42_jump.md R192). -/
def execJsge32Imm (d : Reg) (imm : Word32) (off : BitVec 16) (s : State) :
    Host.Outcome State Fault Refusal :=
  commit (jump32Imm condSge d imm off s)

/-- `jsge32_reg` (42_jump.md R193). -/
def execJsge32Reg (d r : Reg) (off : BitVec 16) (s : State) :
    Host.Outcome State Fault Refusal :=
  commit (jump32Reg condSge d r off s)

/-- `jlt64_imm` (42_jump.md R194). -/
def execJlt64Imm (d : Reg) (imm : Word32) (off : BitVec 16) (s : State) :
    Host.Outcome State Fault Refusal :=
  commit (jump64Imm condLt d imm off s)

/-- `jlt64_reg` (42_jump.md R195). -/
def execJlt64Reg (d r : Reg) (off : BitVec 16) (s : State) :
    Host.Outcome State Fault Refusal :=
  commit (jump64Reg condLt d r off s)

/-- `jlt32_imm` (42_jump.md R196). -/
def execJlt32Imm (d : Reg) (imm : Word32) (off : BitVec 16) (s : State) :
    Host.Outcome State Fault Refusal :=
  commit (jump32Imm condLt d imm off s)

/-- `jlt32_reg` (42_jump.md R197). -/
def execJlt32Reg (d r : Reg) (off : BitVec 16) (s : State) :
    Host.Outcome State Fault Refusal :=
  commit (jump32Reg condLt d r off s)

/-- `jle64_imm` (42_jump.md R198). -/
def execJle64Imm (d : Reg) (imm : Word32) (off : BitVec 16) (s : State) :
    Host.Outcome State Fault Refusal :=
  commit (jump64Imm condLe d imm off s)

/-- `jle64_reg` (42_jump.md R199). -/
def execJle64Reg (d r : Reg) (off : BitVec 16) (s : State) :
    Host.Outcome State Fault Refusal :=
  commit (jump64Reg condLe d r off s)

/-- `jle32_imm` (42_jump.md R200). -/
def execJle32Imm (d : Reg) (imm : Word32) (off : BitVec 16) (s : State) :
    Host.Outcome State Fault Refusal :=
  commit (jump32Imm condLe d imm off s)

/-- `jle32_reg` (42_jump.md R201). -/
def execJle32Reg (d r : Reg) (off : BitVec 16) (s : State) :
    Host.Outcome State Fault Refusal :=
  commit (jump32Reg condLe d r off s)

/-- `jslt64_imm` (42_jump.md R202). -/
def execJslt64Imm (d : Reg) (imm : Word32) (off : BitVec 16) (s : State) :
    Host.Outcome State Fault Refusal :=
  commit (jump64Imm condSlt d imm off s)

/-- `jslt64_reg` (42_jump.md R203). -/
def execJslt64Reg (d r : Reg) (off : BitVec 16) (s : State) :
    Host.Outcome State Fault Refusal :=
  commit (jump64Reg condSlt d r off s)

/-- `jslt32_imm` (42_jump.md R204). -/
def execJslt32Imm (d : Reg) (imm : Word32) (off : BitVec 16) (s : State) :
    Host.Outcome State Fault Refusal :=
  commit (jump32Imm condSlt d imm off s)

/-- `jslt32_reg` (42_jump.md R205). -/
def execJslt32Reg (d r : Reg) (off : BitVec 16) (s : State) :
    Host.Outcome State Fault Refusal :=
  commit (jump32Reg condSlt d r off s)

/-- `jsle64_imm` (42_jump.md R206). -/
def execJsle64Imm (d : Reg) (imm : Word32) (off : BitVec 16) (s : State) :
    Host.Outcome State Fault Refusal :=
  commit (jump64Imm condSle d imm off s)

/-- `jsle64_reg` (42_jump.md R207). -/
def execJsle64Reg (d r : Reg) (off : BitVec 16) (s : State) :
    Host.Outcome State Fault Refusal :=
  commit (jump64Reg condSle d r off s)

/-- `jsle32_imm` (42_jump.md R208). -/
def execJsle32Imm (d : Reg) (imm : Word32) (off : BitVec 16) (s : State) :
    Host.Outcome State Fault Refusal :=
  commit (jump32Imm condSle d imm off s)

/-- `jsle32_reg` (42_jump.md R209). -/
def execJsle32Reg (d r : Reg) (off : BitVec 16) (s : State) :
    Host.Outcome State Fault Refusal :=
  commit (jump32Reg condSle d r off s)

end Sys2Proof.Machine
end

