-- ==== Sys2Proof/Machine/LoadStore.lean ====
section
/-! DEFINITION. The meanings of loads and stores (43_load_store.md R217 to R237). -/

namespace Sys2Proof.Machine

/-- `ldxw` (43_load_store.md R223). -/
def execLdxw (d r : Reg) (off : BitVec 16) (s : State) :
    Host.Outcome State Fault Refusal :=
  commit (loadInto .w (fun v => v) d r off s)

/-- `ldxh` (43_load_store.md R224). -/
def execLdxh (d r : Reg) (off : BitVec 16) (s : State) :
    Host.Outcome State Fault Refusal :=
  commit (loadInto .h (fun v => v) d r off s)

/-- `ldxb` (43_load_store.md R225). -/
def execLdxb (d r : Reg) (off : BitVec 16) (s : State) :
    Host.Outcome State Fault Refusal :=
  commit (loadInto .b (fun v => v) d r off s)

/-- `ldxdw` (43_load_store.md R226). -/
def execLdxdw (d r : Reg) (off : BitVec 16) (s : State) :
    Host.Outcome State Fault Refusal :=
  commit (loadInto .dw (fun v => v) d r off s)

/-- `ldxsw` (43_load_store.md R227). -/
def execLdxsw (d r : Reg) (off : BitVec 16) (s : State) :
    Host.Outcome State Fault Refusal :=
  commit (loadInto .w (sextLow 32) d r off s)

/-- `ldxsh` (43_load_store.md R228). -/
def execLdxsh (d r : Reg) (off : BitVec 16) (s : State) :
    Host.Outcome State Fault Refusal :=
  commit (loadInto .h (sextLow 16) d r off s)

/-- `ldxsb` (43_load_store.md R229). -/
def execLdxsb (d r : Reg) (off : BitVec 16) (s : State) :
    Host.Outcome State Fault Refusal :=
  commit (loadInto .b (sextLow 8) d r off s)

/-- `stw` (43_load_store.md R230). -/
def execStw (d : Reg) (off : BitVec 16) (imm : Word32) (s : State) :
    Host.Outcome State Fault Refusal :=
  commit (storeImm .w d off imm s)

/-- `sth` (43_load_store.md R231). -/
def execSth (d : Reg) (off : BitVec 16) (imm : Word32) (s : State) :
    Host.Outcome State Fault Refusal :=
  commit (storeImm .h d off imm s)

/-- `stb` (43_load_store.md R232). -/
def execStb (d : Reg) (off : BitVec 16) (imm : Word32) (s : State) :
    Host.Outcome State Fault Refusal :=
  commit (storeImm .b d off imm s)

/-- `stdw` (43_load_store.md R233). -/
def execStdw (d : Reg) (off : BitVec 16) (imm : Word32) (s : State) :
    Host.Outcome State Fault Refusal :=
  commit (storeImm .dw d off imm s)

/-- `stxw` (43_load_store.md R234). -/
def execStxw (d r : Reg) (off : BitVec 16) (s : State) :
    Host.Outcome State Fault Refusal :=
  commit (storeReg .w d r off s)

/-- `stxh` (43_load_store.md R235). -/
def execStxh (d r : Reg) (off : BitVec 16) (s : State) :
    Host.Outcome State Fault Refusal :=
  commit (storeReg .h d r off s)

/-- `stxb` (43_load_store.md R236). -/
def execStxb (d r : Reg) (off : BitVec 16) (s : State) :
    Host.Outcome State Fault Refusal :=
  commit (storeReg .b d r off s)

/-- `stxdw` (43_load_store.md R237). -/
def execStxdw (d r : Reg) (off : BitVec 16) (s : State) :
    Host.Outcome State Fault Refusal :=
  commit (storeReg .dw d r off s)

end Sys2Proof.Machine
end

