-- ==== Sys2Proof/Machine/Packet.lean ====
section
/-! DEFINITION. The meanings of the legacy packet access instructions (46_legacy_packet.md R277 to R284). -/

namespace Sys2Proof.Machine

/-- `ldabsw`: the spec gives it no semantics, its group is never supported and it raises
`IllegalInstruction` (46_legacy_packet.md R279, R278; log 14). -/
def execLdabsw (_imm : Word32) (s : State) : Host.Outcome State Fault Refusal :=
  .fault (.illegalInstruction s.pc)

/-- `ldabsh`: the spec gives it no semantics, its group is never supported and it raises
`IllegalInstruction` (46_legacy_packet.md R280, R278; log 14). -/
def execLdabsh (_imm : Word32) (s : State) : Host.Outcome State Fault Refusal :=
  .fault (.illegalInstruction s.pc)

/-- `ldabsb`: the spec gives it no semantics, its group is never supported and it raises
`IllegalInstruction` (46_legacy_packet.md R281, R278; log 14). -/
def execLdabsb (_imm : Word32) (s : State) : Host.Outcome State Fault Refusal :=
  .fault (.illegalInstruction s.pc)

/-- `ldindw`: the spec gives it no semantics, its group is never supported and it raises
`IllegalInstruction` (46_legacy_packet.md R282, R278; log 14). -/
def execLdindw (_r : Reg) (_imm : Word32) (s : State) : Host.Outcome State Fault Refusal :=
  .fault (.illegalInstruction s.pc)

/-- `ldindh`: the spec gives it no semantics, its group is never supported and it raises
`IllegalInstruction` (46_legacy_packet.md R283, R278; log 14). -/
def execLdindh (_r : Reg) (_imm : Word32) (s : State) : Host.Outcome State Fault Refusal :=
  .fault (.illegalInstruction s.pc)

/-- `ldindb`: the spec gives it no semantics, its group is never supported and it raises
`IllegalInstruction` (46_legacy_packet.md R284, R278; log 14). -/
def execLdindb (_r : Reg) (_imm : Word32) (s : State) : Host.Outcome State Fault Refusal :=
  .fault (.illegalInstruction s.pc)

end Sys2Proof.Machine
end

