-- ==== Sys2Proof/Machine/Dispatch.lean ====
section
/-! DEFINITION. The dispatch: one arm per instruction, each one direct call of its meaning. -/

namespace Sys2Proof.Machine

/-- The meaning of an instruction. -/
def exec (i : Instr) (s : State) : Host.Outcome State Fault Refusal :=
  match i with
  | .add64Imm d imm => Sys2Proof.Machine.execAdd64Imm d imm s
  | .add64Reg d r => Sys2Proof.Machine.execAdd64Reg d r s
  | .add32Imm d imm => Sys2Proof.Machine.execAdd32Imm d imm s
  | .add32Reg d r => Sys2Proof.Machine.execAdd32Reg d r s
  | .sub64Imm d imm => Sys2Proof.Machine.execSub64Imm d imm s
  | .sub64Reg d r => Sys2Proof.Machine.execSub64Reg d r s
  | .sub32Imm d imm => Sys2Proof.Machine.execSub32Imm d imm s
  | .sub32Reg d r => Sys2Proof.Machine.execSub32Reg d r s
  | .mul64Imm d imm => Sys2Proof.Machine.execMul64Imm d imm s
  | .mul64Reg d r => Sys2Proof.Machine.execMul64Reg d r s
  | .mul32Imm d imm => Sys2Proof.Machine.execMul32Imm d imm s
  | .mul32Reg d r => Sys2Proof.Machine.execMul32Reg d r s
  | .div64Imm d imm => Sys2Proof.Machine.execDiv64Imm d imm s
  | .div64Reg d r => Sys2Proof.Machine.execDiv64Reg d r s
  | .div32Imm d imm => Sys2Proof.Machine.execDiv32Imm d imm s
  | .div32Reg d r => Sys2Proof.Machine.execDiv32Reg d r s
  | .sdiv64Imm d imm => Sys2Proof.Machine.execSdiv64Imm d imm s
  | .sdiv64Reg d r => Sys2Proof.Machine.execSdiv64Reg d r s
  | .sdiv32Imm d imm => Sys2Proof.Machine.execSdiv32Imm d imm s
  | .sdiv32Reg d r => Sys2Proof.Machine.execSdiv32Reg d r s
  | .or64Imm d imm => Sys2Proof.Machine.execOr64Imm d imm s
  | .or64Reg d r => Sys2Proof.Machine.execOr64Reg d r s
  | .or32Imm d imm => Sys2Proof.Machine.execOr32Imm d imm s
  | .or32Reg d r => Sys2Proof.Machine.execOr32Reg d r s
  | .and64Imm d imm => Sys2Proof.Machine.execAnd64Imm d imm s
  | .and64Reg d r => Sys2Proof.Machine.execAnd64Reg d r s
  | .and32Imm d imm => Sys2Proof.Machine.execAnd32Imm d imm s
  | .and32Reg d r => Sys2Proof.Machine.execAnd32Reg d r s
  | .lsh64Imm d imm => Sys2Proof.Machine.execLsh64Imm d imm s
  | .lsh64Reg d r => Sys2Proof.Machine.execLsh64Reg d r s
  | .lsh32Imm d imm => Sys2Proof.Machine.execLsh32Imm d imm s
  | .lsh32Reg d r => Sys2Proof.Machine.execLsh32Reg d r s
  | .rsh64Imm d imm => Sys2Proof.Machine.execRsh64Imm d imm s
  | .rsh64Reg d r => Sys2Proof.Machine.execRsh64Reg d r s
  | .rsh32Imm d imm => Sys2Proof.Machine.execRsh32Imm d imm s
  | .rsh32Reg d r => Sys2Proof.Machine.execRsh32Reg d r s
  | .mod64Imm d imm => Sys2Proof.Machine.execMod64Imm d imm s
  | .mod64Reg d r => Sys2Proof.Machine.execMod64Reg d r s
  | .mod32Imm d imm => Sys2Proof.Machine.execMod32Imm d imm s
  | .mod32Reg d r => Sys2Proof.Machine.execMod32Reg d r s
  | .smod64Imm d imm => Sys2Proof.Machine.execSmod64Imm d imm s
  | .smod64Reg d r => Sys2Proof.Machine.execSmod64Reg d r s
  | .smod32Imm d imm => Sys2Proof.Machine.execSmod32Imm d imm s
  | .smod32Reg d r => Sys2Proof.Machine.execSmod32Reg d r s
  | .xor64Imm d imm => Sys2Proof.Machine.execXor64Imm d imm s
  | .xor64Reg d r => Sys2Proof.Machine.execXor64Reg d r s
  | .xor32Imm d imm => Sys2Proof.Machine.execXor32Imm d imm s
  | .xor32Reg d r => Sys2Proof.Machine.execXor32Reg d r s
  | .mov64Imm d imm => Sys2Proof.Machine.execMov64Imm d imm s
  | .mov64Reg d r => Sys2Proof.Machine.execMov64Reg d r s
  | .mov32Imm d imm => Sys2Proof.Machine.execMov32Imm d imm s
  | .mov32Reg d r => Sys2Proof.Machine.execMov32Reg d r s
  | .arsh64Imm d imm => Sys2Proof.Machine.execArsh64Imm d imm s
  | .arsh64Reg d r => Sys2Proof.Machine.execArsh64Reg d r s
  | .arsh32Imm d imm => Sys2Proof.Machine.execArsh32Imm d imm s
  | .arsh32Reg d r => Sys2Proof.Machine.execArsh32Reg d r s
  | .neg64 d => Sys2Proof.Machine.execNeg64 d s
  | .neg32 d => Sys2Proof.Machine.execNeg32 d s
  | .movsx64From8 d r => Sys2Proof.Machine.execMovsx64From8 d r s
  | .movsx64From16 d r => Sys2Proof.Machine.execMovsx64From16 d r s
  | .movsx64From32 d r => Sys2Proof.Machine.execMovsx64From32 d r s
  | .movsx32From8 d r => Sys2Proof.Machine.execMovsx32From8 d r s
  | .movsx32From16 d r => Sys2Proof.Machine.execMovsx32From16 d r s
  | .le16 d => Sys2Proof.Machine.execLe16 d s
  | .le32 d => Sys2Proof.Machine.execLe32 d s
  | .le64 d => Sys2Proof.Machine.execLe64 d s
  | .be16 d => Sys2Proof.Machine.execBe16 d s
  | .be32 d => Sys2Proof.Machine.execBe32 d s
  | .be64 d => Sys2Proof.Machine.execBe64 d s
  | .bswap16 d => Sys2Proof.Machine.execBswap16 d s
  | .bswap32 d => Sys2Proof.Machine.execBswap32 d s
  | .bswap64 d => Sys2Proof.Machine.execBswap64 d s
  | .ja off => Sys2Proof.Machine.execJa off s
  | .ja32 imm => Sys2Proof.Machine.execJa32 imm s
  | .jeq64Imm d imm off => Sys2Proof.Machine.execJeq64Imm d imm off s
  | .jeq64Reg d r off => Sys2Proof.Machine.execJeq64Reg d r off s
  | .jeq32Imm d imm off => Sys2Proof.Machine.execJeq32Imm d imm off s
  | .jeq32Reg d r off => Sys2Proof.Machine.execJeq32Reg d r off s
  | .jgt64Imm d imm off => Sys2Proof.Machine.execJgt64Imm d imm off s
  | .jgt64Reg d r off => Sys2Proof.Machine.execJgt64Reg d r off s
  | .jgt32Imm d imm off => Sys2Proof.Machine.execJgt32Imm d imm off s
  | .jgt32Reg d r off => Sys2Proof.Machine.execJgt32Reg d r off s
  | .jge64Imm d imm off => Sys2Proof.Machine.execJge64Imm d imm off s
  | .jge64Reg d r off => Sys2Proof.Machine.execJge64Reg d r off s
  | .jge32Imm d imm off => Sys2Proof.Machine.execJge32Imm d imm off s
  | .jge32Reg d r off => Sys2Proof.Machine.execJge32Reg d r off s
  | .jset64Imm d imm off => Sys2Proof.Machine.execJset64Imm d imm off s
  | .jset64Reg d r off => Sys2Proof.Machine.execJset64Reg d r off s
  | .jset32Imm d imm off => Sys2Proof.Machine.execJset32Imm d imm off s
  | .jset32Reg d r off => Sys2Proof.Machine.execJset32Reg d r off s
  | .jne64Imm d imm off => Sys2Proof.Machine.execJne64Imm d imm off s
  | .jne64Reg d r off => Sys2Proof.Machine.execJne64Reg d r off s
  | .jne32Imm d imm off => Sys2Proof.Machine.execJne32Imm d imm off s
  | .jne32Reg d r off => Sys2Proof.Machine.execJne32Reg d r off s
  | .jsgt64Imm d imm off => Sys2Proof.Machine.execJsgt64Imm d imm off s
  | .jsgt64Reg d r off => Sys2Proof.Machine.execJsgt64Reg d r off s
  | .jsgt32Imm d imm off => Sys2Proof.Machine.execJsgt32Imm d imm off s
  | .jsgt32Reg d r off => Sys2Proof.Machine.execJsgt32Reg d r off s
  | .jsge64Imm d imm off => Sys2Proof.Machine.execJsge64Imm d imm off s
  | .jsge64Reg d r off => Sys2Proof.Machine.execJsge64Reg d r off s
  | .jsge32Imm d imm off => Sys2Proof.Machine.execJsge32Imm d imm off s
  | .jsge32Reg d r off => Sys2Proof.Machine.execJsge32Reg d r off s
  | .jlt64Imm d imm off => Sys2Proof.Machine.execJlt64Imm d imm off s
  | .jlt64Reg d r off => Sys2Proof.Machine.execJlt64Reg d r off s
  | .jlt32Imm d imm off => Sys2Proof.Machine.execJlt32Imm d imm off s
  | .jlt32Reg d r off => Sys2Proof.Machine.execJlt32Reg d r off s
  | .jle64Imm d imm off => Sys2Proof.Machine.execJle64Imm d imm off s
  | .jle64Reg d r off => Sys2Proof.Machine.execJle64Reg d r off s
  | .jle32Imm d imm off => Sys2Proof.Machine.execJle32Imm d imm off s
  | .jle32Reg d r off => Sys2Proof.Machine.execJle32Reg d r off s
  | .jslt64Imm d imm off => Sys2Proof.Machine.execJslt64Imm d imm off s
  | .jslt64Reg d r off => Sys2Proof.Machine.execJslt64Reg d r off s
  | .jslt32Imm d imm off => Sys2Proof.Machine.execJslt32Imm d imm off s
  | .jslt32Reg d r off => Sys2Proof.Machine.execJslt32Reg d r off s
  | .jsle64Imm d imm off => Sys2Proof.Machine.execJsle64Imm d imm off s
  | .jsle64Reg d r off => Sys2Proof.Machine.execJsle64Reg d r off s
  | .jsle32Imm d imm off => Sys2Proof.Machine.execJsle32Imm d imm off s
  | .jsle32Reg d r off => Sys2Proof.Machine.execJsle32Reg d r off s
  | .callHelper imm => Sys2Proof.Machine.execCallHelper imm s
  | .callLocal imm => Sys2Proof.Machine.execCallLocal imm s
  | .callBtf imm => Sys2Proof.Machine.execCallBtf imm s
  | .exit => Sys2Proof.Machine.execExit s
  | .ldxw d r off => Sys2Proof.Machine.execLdxw d r off s
  | .ldxh d r off => Sys2Proof.Machine.execLdxh d r off s
  | .ldxb d r off => Sys2Proof.Machine.execLdxb d r off s
  | .ldxdw d r off => Sys2Proof.Machine.execLdxdw d r off s
  | .ldxsw d r off => Sys2Proof.Machine.execLdxsw d r off s
  | .ldxsh d r off => Sys2Proof.Machine.execLdxsh d r off s
  | .ldxsb d r off => Sys2Proof.Machine.execLdxsb d r off s
  | .stw d off imm => Sys2Proof.Machine.execStw d off imm s
  | .sth d off imm => Sys2Proof.Machine.execSth d off imm s
  | .stb d off imm => Sys2Proof.Machine.execStb d off imm s
  | .stdw d off imm => Sys2Proof.Machine.execStdw d off imm s
  | .stxw d r off => Sys2Proof.Machine.execStxw d r off s
  | .stxh d r off => Sys2Proof.Machine.execStxh d r off s
  | .stxb d r off => Sys2Proof.Machine.execStxb d r off s
  | .stxdw d r off => Sys2Proof.Machine.execStxdw d r off s
  | .atomicAdd32 d r off => Sys2Proof.Machine.execAtomicAdd32 d r off s
  | .atomicFetchAdd32 d r off => Sys2Proof.Machine.execAtomicFetchAdd32 d r off s
  | .atomicOr32 d r off => Sys2Proof.Machine.execAtomicOr32 d r off s
  | .atomicFetchOr32 d r off => Sys2Proof.Machine.execAtomicFetchOr32 d r off s
  | .atomicAnd32 d r off => Sys2Proof.Machine.execAtomicAnd32 d r off s
  | .atomicFetchAnd32 d r off => Sys2Proof.Machine.execAtomicFetchAnd32 d r off s
  | .atomicXor32 d r off => Sys2Proof.Machine.execAtomicXor32 d r off s
  | .atomicFetchXor32 d r off => Sys2Proof.Machine.execAtomicFetchXor32 d r off s
  | .atomicXchg32 d r off => Sys2Proof.Machine.execAtomicXchg32 d r off s
  | .atomicCmpxchg32 d r off => Sys2Proof.Machine.execAtomicCmpxchg32 d r off s
  | .atomicAdd64 d r off => Sys2Proof.Machine.execAtomicAdd64 d r off s
  | .atomicFetchAdd64 d r off => Sys2Proof.Machine.execAtomicFetchAdd64 d r off s
  | .atomicOr64 d r off => Sys2Proof.Machine.execAtomicOr64 d r off s
  | .atomicFetchOr64 d r off => Sys2Proof.Machine.execAtomicFetchOr64 d r off s
  | .atomicAnd64 d r off => Sys2Proof.Machine.execAtomicAnd64 d r off s
  | .atomicFetchAnd64 d r off => Sys2Proof.Machine.execAtomicFetchAnd64 d r off s
  | .atomicXor64 d r off => Sys2Proof.Machine.execAtomicXor64 d r off s
  | .atomicFetchXor64 d r off => Sys2Proof.Machine.execAtomicFetchXor64 d r off s
  | .atomicXchg64 d r off => Sys2Proof.Machine.execAtomicXchg64 d r off s
  | .atomicCmpxchg64 d r off => Sys2Proof.Machine.execAtomicCmpxchg64 d r off s
  | .lddw d imm next => Sys2Proof.Machine.execLddw d imm next s
  | .ldMapFd d imm => Sys2Proof.Machine.execLdMapFd d imm s
  | .ldMapValFd d imm next => Sys2Proof.Machine.execLdMapValFd d imm next s
  | .ldVarAddr d imm => Sys2Proof.Machine.execLdVarAddr d imm s
  | .ldCodeAddr d imm => Sys2Proof.Machine.execLdCodeAddr d imm s
  | .ldMapIdx d imm => Sys2Proof.Machine.execLdMapIdx d imm s
  | .ldMapValIdx d imm next => Sys2Proof.Machine.execLdMapValIdx d imm next s
  | .ldabsw imm => Sys2Proof.Machine.execLdabsw imm s
  | .ldabsh imm => Sys2Proof.Machine.execLdabsh imm s
  | .ldabsb imm => Sys2Proof.Machine.execLdabsb imm s
  | .ldindw r imm => Sys2Proof.Machine.execLdindw r imm s
  | .ldindh r imm => Sys2Proof.Machine.execLdindh r imm s
  | .ldindb r imm => Sys2Proof.Machine.execLdindb r imm s

end Sys2Proof.Machine
end

