-- ==== Sys2Proof/Decode.lean ====
section
/-! DEFINITION. Decoding and encoding: the fields of a slot, the canonical word, the opcode map, the decoder
(total, rejecting by name) and the encoder (30_encoding.md). -/

namespace Sys2Proof

/-- The fields of the basic format (30_encoding.md R49, R52). -/
structure Fields where
  opcode : BitVec 8
  dst : BitVec 4
  src : BitVec 4
  off : BitVec 16
  imm : Word32
deriving DecidableEq, Repr, Inhabited

/-- The fields of a slot. The `regs` byte and the byte order of `offset` and `imm` follow the host
(30_encoding.md R49, R50). -/
def Slot.fields (e : HostEndian) (s : Slot) : Fields :=
  match e with
  | .little => ⟨s.b0, s.b1.extractLsb' 0 4, s.b1.extractLsb' 4 4, s.b3 ++ s.b2, s.b7 ++ s.b6 ++ s.b5 ++ s.b4⟩
  | .big => ⟨s.b0, s.b1.extractLsb' 4 4, s.b1.extractLsb' 0 4, s.b2 ++ s.b3, s.b4 ++ s.b5 ++ s.b6 ++ s.b7⟩

/-- The bytes of a slot with given fields (30_encoding.md R49). -/
def Fields.slot (e : HostEndian) (f : Fields) : Slot :=
  let i (k : Nat) : Byte := f.imm.extractLsb' (8 * k) 8
  let o (k : Nat) : Byte := f.off.extractLsb' (8 * k) 8
  match e with
  | .little => ⟨f.opcode, f.src ++ f.dst, o 0, o 1, i 0, i 1, i 2, i 3⟩
  | .big => ⟨f.opcode, f.dst ++ f.src, o 1, o 0, i 3, i 2, i 1, i 0⟩

/-- The canonical word W of a slot's fields (30_encoding.md R51). -/
def Fields.word (f : Fields) : BitVec 64 := f.imm ++ f.off ++ f.src ++ f.dst ++ f.opcode

/-- The fields of a canonical word (30_encoding.md R51). -/
def Fields.ofWord (w : BitVec 64) : Fields :=
  ⟨w.extractLsb' 0 8, w.extractLsb' 8 4, w.extractLsb' 12 4, w.extractLsb' 16 16, w.extractLsb' 32 32⟩

/-- Whether an opcode byte announces the wide encoding: exactly 0x18 (30_encoding.md R48). -/
def isWideOpcode (b : Byte) : Bool := b == 0x18

/-- Why a slot does not decode (30_encoding.md R61, R65; 60_exceptions.md R288). Every one of them is an
illegal instruction; safe: nothing runs. -/
inductive DecodeError where
  /-- The opcode byte is not in the opcode map (R61 step 2, R65). -/
  | undefinedOpcode
  /-- The opcode is defined and its selector field has no defined value (R61 step 3, R65). -/
  | undefinedSelector
  /-- A wide instruction without a second slot (R61 step 4, R66). -/
  | cutOff
  /-- A register field that the instruction uses is 11 to 15 (R64). -/
  | badRegister
  /-- `STRICT_RESERVED` is true and an unused field or a reserved byte is not zero (R63). -/
  | reservedField
deriving DecidableEq, Repr

/-- The further selector of an opcode map row (30_encoding.md R62): the field that must hold a given value. -/
inductive Selector where
  | none
  | off (v : BitVec 16)
  | imm (v : Word32)
  | src (v : BitVec 4)

/-- Selectors are compared as whole fields (30_encoding.md R60 (i)). -/
def Selector.holds (f : Fields) : Selector → Bool
  | .none => true
  | .off v => f.off == v
  | .imm v => f.imm == v
  | .src v => f.src == v

/-- Whether the selector is the `offset` field. -/
def Selector.isOff : Selector → Bool
  | .off _ => true
  | .none | .imm _ | .src _ => false

/-- The formats of 30_encoding.md R59, each with the instruction that its used fields make. `imm64Next` is
`IMM64` with `next_imm` used (subtypes 0, 2, 6). -/
inductive Format where
  | aluK (mk : Reg → Word32 → Instr)
  | aluX (mk : Reg → Reg → Instr)
  | neg (mk : Reg → Instr)
  | byteSwap (mk : Reg → Instr)
  | ja (mk : BitVec 16 → Instr)
  | ja32 (mk : Word32 → Instr)
  | jmpK (mk : Reg → Word32 → BitVec 16 → Instr)
  | jmpX (mk : Reg → Reg → BitVec 16 → Instr)
  | call (mk : Word32 → Instr)
  | exit (mk : Instr)
  | ldx (mk : Reg → Reg → BitVec 16 → Instr)
  | st (mk : Reg → BitVec 16 → Word32 → Instr)
  | stx (mk : Reg → Reg → BitVec 16 → Instr)
  | atomic (mk : Reg → Reg → BitVec 16 → Instr)
  | imm64 (mk : Reg → Word32 → Instr)
  | imm64Next (mk : Reg → Word32 → Word32 → Instr)
  | ldAbs (mk : Word32 → Instr)
  | ldInd (mk : Reg → Word32 → Instr)

/-- One row of the opcode map: opcode byte, selector, format (30_encoding.md R62). -/
structure OpcodeRow where
  opcode : BitVec 8
  sel : Selector
  format : Format

/-- Class ALU64 (0x7), 40_alu.md. -/
def opcodeRowsAlu64 : List OpcodeRow := [
  ⟨0x07, .none, .aluK .add64Imm⟩,
  ⟨0x0f, .none, .aluX .add64Reg⟩,
  ⟨0x17, .none, .aluK .sub64Imm⟩,
  ⟨0x1f, .none, .aluX .sub64Reg⟩,
  ⟨0x27, .none, .aluK .mul64Imm⟩,
  ⟨0x2f, .none, .aluX .mul64Reg⟩,
  ⟨0x37, (.off 0), .aluK .div64Imm⟩,
  ⟨0x3f, (.off 0), .aluX .div64Reg⟩,
  ⟨0x37, (.off 1), .aluK .sdiv64Imm⟩,
  ⟨0x3f, (.off 1), .aluX .sdiv64Reg⟩,
  ⟨0x47, .none, .aluK .or64Imm⟩,
  ⟨0x4f, .none, .aluX .or64Reg⟩,
  ⟨0x57, .none, .aluK .and64Imm⟩,
  ⟨0x5f, .none, .aluX .and64Reg⟩,
  ⟨0x67, .none, .aluK .lsh64Imm⟩,
  ⟨0x6f, .none, .aluX .lsh64Reg⟩,
  ⟨0x77, .none, .aluK .rsh64Imm⟩,
  ⟨0x7f, .none, .aluX .rsh64Reg⟩,
  ⟨0x97, (.off 0), .aluK .mod64Imm⟩,
  ⟨0x9f, (.off 0), .aluX .mod64Reg⟩,
  ⟨0x97, (.off 1), .aluK .smod64Imm⟩,
  ⟨0x9f, (.off 1), .aluX .smod64Reg⟩,
  ⟨0xa7, .none, .aluK .xor64Imm⟩,
  ⟨0xaf, .none, .aluX .xor64Reg⟩,
  ⟨0xb7, (.off 0), .aluK .mov64Imm⟩,
  ⟨0xbf, (.off 0), .aluX .mov64Reg⟩,
  ⟨0xc7, .none, .aluK .arsh64Imm⟩,
  ⟨0xcf, .none, .aluX .arsh64Reg⟩,
  ⟨0x87, .none, .neg .neg64⟩,
  ⟨0xbf, (.off 8), .aluX .movsx64From8⟩,
  ⟨0xbf, (.off 16), .aluX .movsx64From16⟩,
  ⟨0xbf, (.off 32), .aluX .movsx64From32⟩]

/-- Class ALU (0x4), 40_alu.md. -/
def opcodeRowsAlu32 : List OpcodeRow := [
  ⟨0x04, .none, .aluK .add32Imm⟩,
  ⟨0x0c, .none, .aluX .add32Reg⟩,
  ⟨0x14, .none, .aluK .sub32Imm⟩,
  ⟨0x1c, .none, .aluX .sub32Reg⟩,
  ⟨0x24, .none, .aluK .mul32Imm⟩,
  ⟨0x2c, .none, .aluX .mul32Reg⟩,
  ⟨0x34, (.off 0), .aluK .div32Imm⟩,
  ⟨0x3c, (.off 0), .aluX .div32Reg⟩,
  ⟨0x34, (.off 1), .aluK .sdiv32Imm⟩,
  ⟨0x3c, (.off 1), .aluX .sdiv32Reg⟩,
  ⟨0x44, .none, .aluK .or32Imm⟩,
  ⟨0x4c, .none, .aluX .or32Reg⟩,
  ⟨0x54, .none, .aluK .and32Imm⟩,
  ⟨0x5c, .none, .aluX .and32Reg⟩,
  ⟨0x64, .none, .aluK .lsh32Imm⟩,
  ⟨0x6c, .none, .aluX .lsh32Reg⟩,
  ⟨0x74, .none, .aluK .rsh32Imm⟩,
  ⟨0x7c, .none, .aluX .rsh32Reg⟩,
  ⟨0x94, (.off 0), .aluK .mod32Imm⟩,
  ⟨0x9c, (.off 0), .aluX .mod32Reg⟩,
  ⟨0x94, (.off 1), .aluK .smod32Imm⟩,
  ⟨0x9c, (.off 1), .aluX .smod32Reg⟩,
  ⟨0xa4, .none, .aluK .xor32Imm⟩,
  ⟨0xac, .none, .aluX .xor32Reg⟩,
  ⟨0xb4, (.off 0), .aluK .mov32Imm⟩,
  ⟨0xbc, (.off 0), .aluX .mov32Reg⟩,
  ⟨0xc4, .none, .aluK .arsh32Imm⟩,
  ⟨0xcc, .none, .aluX .arsh32Reg⟩,
  ⟨0x84, .none, .neg .neg32⟩,
  ⟨0xbc, (.off 8), .aluX .movsx32From8⟩,
  ⟨0xbc, (.off 16), .aluX .movsx32From16⟩]

/-- Code END of classes ALU and ALU64, 41_byteswap.md. -/
def opcodeRowsByteSwap : List OpcodeRow := [
  ⟨0xd4, (.imm 0x10), .byteSwap .le16⟩,
  ⟨0xd4, (.imm 0x20), .byteSwap .le32⟩,
  ⟨0xd4, (.imm 0x40), .byteSwap .le64⟩,
  ⟨0xdc, (.imm 0x10), .byteSwap .be16⟩,
  ⟨0xdc, (.imm 0x20), .byteSwap .be32⟩,
  ⟨0xdc, (.imm 0x40), .byteSwap .be64⟩,
  ⟨0xd7, (.imm 0x10), .byteSwap .bswap16⟩,
  ⟨0xd7, (.imm 0x20), .byteSwap .bswap32⟩,
  ⟨0xd7, (.imm 0x40), .byteSwap .bswap64⟩]

/-- `ja`, `ja32`, the calls and `exit`, 42_jump.md. -/
def opcodeRowsControl : List OpcodeRow := [
  ⟨0x05, .none, .ja .ja⟩,
  ⟨0x06, .none, .ja32 .ja32⟩,
  ⟨0x85, (.src 0), .call .callHelper⟩,
  ⟨0x85, (.src 1), .call .callLocal⟩,
  ⟨0x85, (.src 2), .call .callBtf⟩,
  ⟨0x95, .none, .exit .exit⟩]

/-- Conditional jumps of class JMP (0x5), 42_jump.md. -/
def opcodeRowsJump64 : List OpcodeRow := [
  ⟨0x15, .none, .jmpK .jeq64Imm⟩,
  ⟨0x1d, .none, .jmpX .jeq64Reg⟩,
  ⟨0x25, .none, .jmpK .jgt64Imm⟩,
  ⟨0x2d, .none, .jmpX .jgt64Reg⟩,
  ⟨0x35, .none, .jmpK .jge64Imm⟩,
  ⟨0x3d, .none, .jmpX .jge64Reg⟩,
  ⟨0x45, .none, .jmpK .jset64Imm⟩,
  ⟨0x4d, .none, .jmpX .jset64Reg⟩,
  ⟨0x55, .none, .jmpK .jne64Imm⟩,
  ⟨0x5d, .none, .jmpX .jne64Reg⟩,
  ⟨0x65, .none, .jmpK .jsgt64Imm⟩,
  ⟨0x6d, .none, .jmpX .jsgt64Reg⟩,
  ⟨0x75, .none, .jmpK .jsge64Imm⟩,
  ⟨0x7d, .none, .jmpX .jsge64Reg⟩,
  ⟨0xa5, .none, .jmpK .jlt64Imm⟩,
  ⟨0xad, .none, .jmpX .jlt64Reg⟩,
  ⟨0xb5, .none, .jmpK .jle64Imm⟩,
  ⟨0xbd, .none, .jmpX .jle64Reg⟩,
  ⟨0xc5, .none, .jmpK .jslt64Imm⟩,
  ⟨0xcd, .none, .jmpX .jslt64Reg⟩,
  ⟨0xd5, .none, .jmpK .jsle64Imm⟩,
  ⟨0xdd, .none, .jmpX .jsle64Reg⟩]

/-- Conditional jumps of class JMP32 (0x6), 42_jump.md. -/
def opcodeRowsJump32 : List OpcodeRow := [
  ⟨0x16, .none, .jmpK .jeq32Imm⟩,
  ⟨0x1e, .none, .jmpX .jeq32Reg⟩,
  ⟨0x26, .none, .jmpK .jgt32Imm⟩,
  ⟨0x2e, .none, .jmpX .jgt32Reg⟩,
  ⟨0x36, .none, .jmpK .jge32Imm⟩,
  ⟨0x3e, .none, .jmpX .jge32Reg⟩,
  ⟨0x46, .none, .jmpK .jset32Imm⟩,
  ⟨0x4e, .none, .jmpX .jset32Reg⟩,
  ⟨0x56, .none, .jmpK .jne32Imm⟩,
  ⟨0x5e, .none, .jmpX .jne32Reg⟩,
  ⟨0x66, .none, .jmpK .jsgt32Imm⟩,
  ⟨0x6e, .none, .jmpX .jsgt32Reg⟩,
  ⟨0x76, .none, .jmpK .jsge32Imm⟩,
  ⟨0x7e, .none, .jmpX .jsge32Reg⟩,
  ⟨0xa6, .none, .jmpK .jlt32Imm⟩,
  ⟨0xae, .none, .jmpX .jlt32Reg⟩,
  ⟨0xb6, .none, .jmpK .jle32Imm⟩,
  ⟨0xbe, .none, .jmpX .jle32Reg⟩,
  ⟨0xc6, .none, .jmpK .jslt32Imm⟩,
  ⟨0xce, .none, .jmpX .jslt32Reg⟩,
  ⟨0xd6, .none, .jmpK .jsle32Imm⟩,
  ⟨0xde, .none, .jmpX .jsle32Reg⟩]

/-- Classes LDX, ST and STX with modes MEM and MEMSX, 43_load_store.md. -/
def opcodeRowsLoadStore : List OpcodeRow := [
  ⟨0x61, .none, .ldx .ldxw⟩,
  ⟨0x69, .none, .ldx .ldxh⟩,
  ⟨0x71, .none, .ldx .ldxb⟩,
  ⟨0x79, .none, .ldx .ldxdw⟩,
  ⟨0x81, .none, .ldx .ldxsw⟩,
  ⟨0x89, .none, .ldx .ldxsh⟩,
  ⟨0x91, .none, .ldx .ldxsb⟩,
  ⟨0x62, .none, .st .stw⟩,
  ⟨0x6a, .none, .st .sth⟩,
  ⟨0x72, .none, .st .stb⟩,
  ⟨0x7a, .none, .st .stdw⟩,
  ⟨0x63, .none, .stx .stxw⟩,
  ⟨0x6b, .none, .stx .stxh⟩,
  ⟨0x73, .none, .stx .stxb⟩,
  ⟨0x7b, .none, .stx .stxdw⟩]

/-- {ATOMIC, W, STX}, 44_atomic.md. -/
def opcodeRowsAtomic32 : List OpcodeRow := [
  ⟨0xc3, (.imm 0x0), .atomic .atomicAdd32⟩,
  ⟨0xc3, (.imm 0x1), .atomic .atomicFetchAdd32⟩,
  ⟨0xc3, (.imm 0x40), .atomic .atomicOr32⟩,
  ⟨0xc3, (.imm 0x41), .atomic .atomicFetchOr32⟩,
  ⟨0xc3, (.imm 0x50), .atomic .atomicAnd32⟩,
  ⟨0xc3, (.imm 0x51), .atomic .atomicFetchAnd32⟩,
  ⟨0xc3, (.imm 0xa0), .atomic .atomicXor32⟩,
  ⟨0xc3, (.imm 0xa1), .atomic .atomicFetchXor32⟩,
  ⟨0xc3, (.imm 0xe1), .atomic .atomicXchg32⟩,
  ⟨0xc3, (.imm 0xf1), .atomic .atomicCmpxchg32⟩]

/-- {ATOMIC, DW, STX}, 44_atomic.md. -/
def opcodeRowsAtomic64 : List OpcodeRow := [
  ⟨0xdb, (.imm 0x0), .atomic .atomicAdd64⟩,
  ⟨0xdb, (.imm 0x1), .atomic .atomicFetchAdd64⟩,
  ⟨0xdb, (.imm 0x40), .atomic .atomicOr64⟩,
  ⟨0xdb, (.imm 0x41), .atomic .atomicFetchOr64⟩,
  ⟨0xdb, (.imm 0x50), .atomic .atomicAnd64⟩,
  ⟨0xdb, (.imm 0x51), .atomic .atomicFetchAnd64⟩,
  ⟨0xdb, (.imm 0xa0), .atomic .atomicXor64⟩,
  ⟨0xdb, (.imm 0xa1), .atomic .atomicFetchXor64⟩,
  ⟨0xdb, (.imm 0xe1), .atomic .atomicXchg64⟩,
  ⟨0xdb, (.imm 0xf1), .atomic .atomicCmpxchg64⟩]

/-- {IMM, DW, LD}, wide, 45_imm64.md. -/
def opcodeRowsImm64 : List OpcodeRow := [
  ⟨0x18, (.src 0), .imm64Next .lddw⟩,
  ⟨0x18, (.src 1), .imm64 .ldMapFd⟩,
  ⟨0x18, (.src 2), .imm64Next .ldMapValFd⟩,
  ⟨0x18, (.src 3), .imm64 .ldVarAddr⟩,
  ⟨0x18, (.src 4), .imm64 .ldCodeAddr⟩,
  ⟨0x18, (.src 5), .imm64 .ldMapIdx⟩,
  ⟨0x18, (.src 6), .imm64Next .ldMapValIdx⟩]

/-- Modes ABS and IND of class LD, 46_legacy_packet.md. -/
def opcodeRowsPacket : List OpcodeRow := [
  ⟨0x20, .none, .ldAbs .ldabsw⟩,
  ⟨0x28, .none, .ldAbs .ldabsh⟩,
  ⟨0x30, .none, .ldAbs .ldabsb⟩,
  ⟨0x40, .none, .ldInd .ldindw⟩,
  ⟨0x48, .none, .ldInd .ldindh⟩,
  ⟨0x50, .none, .ldInd .ldindb⟩]

/-- The complete opcode map (30_encoding.md R62): one row per row of spec/opcode_table.json. -/
def opcodeRows : List OpcodeRow :=
  opcodeRowsAlu64 ++ opcodeRowsAlu32 ++ opcodeRowsByteSwap ++ opcodeRowsControl ++ opcodeRowsJump64 ++ opcodeRowsJump32 ++ opcodeRowsLoadStore ++ opcodeRowsAtomic32 ++ opcodeRowsAtomic64 ++ opcodeRowsImm64 ++ opcodeRowsPacket

/-- Whether a row is the one that the opcode byte and the selector field choose (30_encoding.md R61, steps 2
and 3). -/
def OpcodeRow.selects (f : Fields) (r : OpcodeRow) : Bool := f.opcode == r.opcode && r.sel.holds f

/-- The register that a used register field names; 11 to 15 name none (30_encoding.md R64). -/
def regOf (b : BitVec 4) : Option Reg := if h : b.toNat < 11 then some ⟨b.toNat, h⟩ else none

/-- The field that names a register. -/
def regBits (r : Reg) : BitVec 4 := BitVec.ofNat 4 r.val

/-- The instruction that the used fields of a format make; none when a used register field names no register
(30_encoding.md R59, R64). -/
def Format.build (f : Fields) (next : Word32) : Format → Option Instr
  | .aluK mk => (regOf f.dst).map fun d => mk d f.imm
  | .aluX mk => (regOf f.dst).bind fun d => (regOf f.src).map fun s => mk d s
  | .neg mk => (regOf f.dst).map mk
  | .byteSwap mk => (regOf f.dst).map mk
  | .ja mk => some (mk f.off)
  | .ja32 mk => some (mk f.imm)
  | .jmpK mk => (regOf f.dst).map fun d => mk d f.imm f.off
  | .jmpX mk => (regOf f.dst).bind fun d => (regOf f.src).map fun s => mk d s f.off
  | .call mk => some (mk f.imm)
  | .exit mk => some mk
  | .ldx mk => (regOf f.dst).bind fun d => (regOf f.src).map fun s => mk d s f.off
  | .st mk => (regOf f.dst).map fun d => mk d f.off f.imm
  | .stx mk => (regOf f.dst).bind fun d => (regOf f.src).map fun s => mk d s f.off
  | .atomic mk => (regOf f.dst).bind fun d => (regOf f.src).map fun s => mk d s f.off
  | .imm64 mk => (regOf f.dst).map fun d => mk d f.imm
  | .imm64Next mk => (regOf f.dst).map fun d => mk d f.imm next
  | .ldAbs mk => some (mk f.imm)
  | .ldInd mk => (regOf f.src).map fun s => mk s f.imm

/-- Whether every unused field of the first slot is zero. `fixedOff` says that `offset` is a selector and so not
unused (30_encoding.md R59, R63). -/
def Format.unusedZero (f : Fields) (fixedOff : Bool) : Format → Bool
  | .aluK _ => f.src == 0 && (fixedOff || f.off == 0)
  | .aluX _ => f.imm == 0 && (fixedOff || f.off == 0)
  | .neg _ => f.src == 0 && f.off == 0 && f.imm == 0
  | .byteSwap _ => f.src == 0 && f.off == 0
  | .ja _ => f.dst == 0 && f.src == 0 && f.imm == 0
  | .ja32 _ => f.dst == 0 && f.src == 0 && f.off == 0
  | .jmpK _ => f.src == 0
  | .jmpX _ => f.imm == 0
  | .call _ => f.dst == 0 && f.off == 0
  | .exit _ => f.dst == 0 && f.src == 0 && f.off == 0 && f.imm == 0
  | .ldx _ => f.imm == 0
  | .st _ => f.src == 0
  | .stx _ => f.imm == 0
  | .atomic _ => true
  | .imm64 _ => f.off == 0
  | .imm64Next _ => f.off == 0
  | .ldAbs _ => f.dst == 0 && f.src == 0 && f.off == 0
  | .ldInd _ => f.dst == 0 && f.off == 0

/-- Whether the reserved bytes of the second slot are zero, and its `imm` field where the format does not use it
(30_encoding.md R54, R59, R63). A basic instruction has no second slot. -/
def Format.secondUnusedZero (g : Fields) : Format → Bool
  | .imm64 _ => g.opcode == 0 && g.dst == 0 && g.src == 0 && g.off == 0 && g.imm == 0
  | .imm64Next _ => g.opcode == 0 && g.dst == 0 && g.src == 0 && g.off == 0
  | _ => true

/-- Step 5 of decoding: the register fields and, when `STRICT_RESERVED` is true, the must-be-zero fields
(30_encoding.md R61, R63, R64). `g` holds the fields of the second slot. -/
def OpcodeRow.finish (strict : Bool) (f g : Fields) (r : OpcodeRow) : Except DecodeError Instr :=
  match r.format.build f g.imm with
  | none => .error .badRegister
  | some i =>
    if strict && !(r.format.unusedZero f r.sel.isOff && r.format.secondUnusedZero g) then
      .error .reservedField
    else .ok i

/-- Steps 2 to 5 of decoding, on the fields of the first slot and of the second, where there is one
(30_encoding.md R61). -/
def decodeFields (strict : Bool) (f : Fields) (g : Option Fields) : Except DecodeError Instr :=
  match opcodeRows.find? (OpcodeRow.selects f) with
  | none =>
    if opcodeRows.any (fun r => f.opcode == r.opcode) then .error .undefinedSelector
    else .error .undefinedOpcode
  | some r =>
    if isWideOpcode f.opcode then
      match g with
      | none => .error .cutOff
      | some g => r.finish strict f g
    else r.finish strict f ⟨0, 0, 0, 0, 0⟩

/-- Decode the instruction that starts with slot `s1`; `s2` is the next slot of the program, if any
(30_encoding.md R61, steps 1 to 5). The group check of step 6 is made at the fetch. -/
def decode (e : HostEndian) (strict : Bool) (s1 : Slot) (s2 : Option Slot) : Except DecodeError Instr :=
  decodeFields strict (s1.fields e) (s2.map (Slot.fields e))

/-- The fields of an instruction's first slot, and the `imm` field of its second slot where it is wide
(30_encoding.md R54, R59, R62). -/
def Instr.encodeFields : Instr → Fields × Option Word32
  | .add64Imm d imm => (⟨0x07, (regBits d), 0, 0, imm⟩, none)
  | .add64Reg d s => (⟨0x0f, (regBits d), (regBits s), 0, 0⟩, none)
  | .add32Imm d imm => (⟨0x04, (regBits d), 0, 0, imm⟩, none)
  | .add32Reg d s => (⟨0x0c, (regBits d), (regBits s), 0, 0⟩, none)
  | .sub64Imm d imm => (⟨0x17, (regBits d), 0, 0, imm⟩, none)
  | .sub64Reg d s => (⟨0x1f, (regBits d), (regBits s), 0, 0⟩, none)
  | .sub32Imm d imm => (⟨0x14, (regBits d), 0, 0, imm⟩, none)
  | .sub32Reg d s => (⟨0x1c, (regBits d), (regBits s), 0, 0⟩, none)
  | .mul64Imm d imm => (⟨0x27, (regBits d), 0, 0, imm⟩, none)
  | .mul64Reg d s => (⟨0x2f, (regBits d), (regBits s), 0, 0⟩, none)
  | .mul32Imm d imm => (⟨0x24, (regBits d), 0, 0, imm⟩, none)
  | .mul32Reg d s => (⟨0x2c, (regBits d), (regBits s), 0, 0⟩, none)
  | .div64Imm d imm => (⟨0x37, (regBits d), 0, 0, imm⟩, none)
  | .div64Reg d s => (⟨0x3f, (regBits d), (regBits s), 0, 0⟩, none)
  | .div32Imm d imm => (⟨0x34, (regBits d), 0, 0, imm⟩, none)
  | .div32Reg d s => (⟨0x3c, (regBits d), (regBits s), 0, 0⟩, none)
  | .sdiv64Imm d imm => (⟨0x37, (regBits d), 0, 1, imm⟩, none)
  | .sdiv64Reg d s => (⟨0x3f, (regBits d), (regBits s), 1, 0⟩, none)
  | .sdiv32Imm d imm => (⟨0x34, (regBits d), 0, 1, imm⟩, none)
  | .sdiv32Reg d s => (⟨0x3c, (regBits d), (regBits s), 1, 0⟩, none)
  | .or64Imm d imm => (⟨0x47, (regBits d), 0, 0, imm⟩, none)
  | .or64Reg d s => (⟨0x4f, (regBits d), (regBits s), 0, 0⟩, none)
  | .or32Imm d imm => (⟨0x44, (regBits d), 0, 0, imm⟩, none)
  | .or32Reg d s => (⟨0x4c, (regBits d), (regBits s), 0, 0⟩, none)
  | .and64Imm d imm => (⟨0x57, (regBits d), 0, 0, imm⟩, none)
  | .and64Reg d s => (⟨0x5f, (regBits d), (regBits s), 0, 0⟩, none)
  | .and32Imm d imm => (⟨0x54, (regBits d), 0, 0, imm⟩, none)
  | .and32Reg d s => (⟨0x5c, (regBits d), (regBits s), 0, 0⟩, none)
  | .lsh64Imm d imm => (⟨0x67, (regBits d), 0, 0, imm⟩, none)
  | .lsh64Reg d s => (⟨0x6f, (regBits d), (regBits s), 0, 0⟩, none)
  | .lsh32Imm d imm => (⟨0x64, (regBits d), 0, 0, imm⟩, none)
  | .lsh32Reg d s => (⟨0x6c, (regBits d), (regBits s), 0, 0⟩, none)
  | .rsh64Imm d imm => (⟨0x77, (regBits d), 0, 0, imm⟩, none)
  | .rsh64Reg d s => (⟨0x7f, (regBits d), (regBits s), 0, 0⟩, none)
  | .rsh32Imm d imm => (⟨0x74, (regBits d), 0, 0, imm⟩, none)
  | .rsh32Reg d s => (⟨0x7c, (regBits d), (regBits s), 0, 0⟩, none)
  | .mod64Imm d imm => (⟨0x97, (regBits d), 0, 0, imm⟩, none)
  | .mod64Reg d s => (⟨0x9f, (regBits d), (regBits s), 0, 0⟩, none)
  | .mod32Imm d imm => (⟨0x94, (regBits d), 0, 0, imm⟩, none)
  | .mod32Reg d s => (⟨0x9c, (regBits d), (regBits s), 0, 0⟩, none)
  | .smod64Imm d imm => (⟨0x97, (regBits d), 0, 1, imm⟩, none)
  | .smod64Reg d s => (⟨0x9f, (regBits d), (regBits s), 1, 0⟩, none)
  | .smod32Imm d imm => (⟨0x94, (regBits d), 0, 1, imm⟩, none)
  | .smod32Reg d s => (⟨0x9c, (regBits d), (regBits s), 1, 0⟩, none)
  | .xor64Imm d imm => (⟨0xa7, (regBits d), 0, 0, imm⟩, none)
  | .xor64Reg d s => (⟨0xaf, (regBits d), (regBits s), 0, 0⟩, none)
  | .xor32Imm d imm => (⟨0xa4, (regBits d), 0, 0, imm⟩, none)
  | .xor32Reg d s => (⟨0xac, (regBits d), (regBits s), 0, 0⟩, none)
  | .mov64Imm d imm => (⟨0xb7, (regBits d), 0, 0, imm⟩, none)
  | .mov64Reg d s => (⟨0xbf, (regBits d), (regBits s), 0, 0⟩, none)
  | .mov32Imm d imm => (⟨0xb4, (regBits d), 0, 0, imm⟩, none)
  | .mov32Reg d s => (⟨0xbc, (regBits d), (regBits s), 0, 0⟩, none)
  | .arsh64Imm d imm => (⟨0xc7, (regBits d), 0, 0, imm⟩, none)
  | .arsh64Reg d s => (⟨0xcf, (regBits d), (regBits s), 0, 0⟩, none)
  | .arsh32Imm d imm => (⟨0xc4, (regBits d), 0, 0, imm⟩, none)
  | .arsh32Reg d s => (⟨0xcc, (regBits d), (regBits s), 0, 0⟩, none)
  | .neg64 d => (⟨0x87, (regBits d), 0, 0, 0⟩, none)
  | .neg32 d => (⟨0x84, (regBits d), 0, 0, 0⟩, none)
  | .movsx64From8 d s => (⟨0xbf, (regBits d), (regBits s), 8, 0⟩, none)
  | .movsx64From16 d s => (⟨0xbf, (regBits d), (regBits s), 16, 0⟩, none)
  | .movsx64From32 d s => (⟨0xbf, (regBits d), (regBits s), 32, 0⟩, none)
  | .movsx32From8 d s => (⟨0xbc, (regBits d), (regBits s), 8, 0⟩, none)
  | .movsx32From16 d s => (⟨0xbc, (regBits d), (regBits s), 16, 0⟩, none)
  | .le16 d => (⟨0xd4, (regBits d), 0, 0, 0x10⟩, none)
  | .le32 d => (⟨0xd4, (regBits d), 0, 0, 0x20⟩, none)
  | .le64 d => (⟨0xd4, (regBits d), 0, 0, 0x40⟩, none)
  | .be16 d => (⟨0xdc, (regBits d), 0, 0, 0x10⟩, none)
  | .be32 d => (⟨0xdc, (regBits d), 0, 0, 0x20⟩, none)
  | .be64 d => (⟨0xdc, (regBits d), 0, 0, 0x40⟩, none)
  | .bswap16 d => (⟨0xd7, (regBits d), 0, 0, 0x10⟩, none)
  | .bswap32 d => (⟨0xd7, (regBits d), 0, 0, 0x20⟩, none)
  | .bswap64 d => (⟨0xd7, (regBits d), 0, 0, 0x40⟩, none)
  | .ja off => (⟨0x05, 0, 0, off, 0⟩, none)
  | .ja32 imm => (⟨0x06, 0, 0, 0, imm⟩, none)
  | .jeq64Imm d imm off => (⟨0x15, (regBits d), 0, off, imm⟩, none)
  | .jeq64Reg d s off => (⟨0x1d, (regBits d), (regBits s), off, 0⟩, none)
  | .jeq32Imm d imm off => (⟨0x16, (regBits d), 0, off, imm⟩, none)
  | .jeq32Reg d s off => (⟨0x1e, (regBits d), (regBits s), off, 0⟩, none)
  | .jgt64Imm d imm off => (⟨0x25, (regBits d), 0, off, imm⟩, none)
  | .jgt64Reg d s off => (⟨0x2d, (regBits d), (regBits s), off, 0⟩, none)
  | .jgt32Imm d imm off => (⟨0x26, (regBits d), 0, off, imm⟩, none)
  | .jgt32Reg d s off => (⟨0x2e, (regBits d), (regBits s), off, 0⟩, none)
  | .jge64Imm d imm off => (⟨0x35, (regBits d), 0, off, imm⟩, none)
  | .jge64Reg d s off => (⟨0x3d, (regBits d), (regBits s), off, 0⟩, none)
  | .jge32Imm d imm off => (⟨0x36, (regBits d), 0, off, imm⟩, none)
  | .jge32Reg d s off => (⟨0x3e, (regBits d), (regBits s), off, 0⟩, none)
  | .jset64Imm d imm off => (⟨0x45, (regBits d), 0, off, imm⟩, none)
  | .jset64Reg d s off => (⟨0x4d, (regBits d), (regBits s), off, 0⟩, none)
  | .jset32Imm d imm off => (⟨0x46, (regBits d), 0, off, imm⟩, none)
  | .jset32Reg d s off => (⟨0x4e, (regBits d), (regBits s), off, 0⟩, none)
  | .jne64Imm d imm off => (⟨0x55, (regBits d), 0, off, imm⟩, none)
  | .jne64Reg d s off => (⟨0x5d, (regBits d), (regBits s), off, 0⟩, none)
  | .jne32Imm d imm off => (⟨0x56, (regBits d), 0, off, imm⟩, none)
  | .jne32Reg d s off => (⟨0x5e, (regBits d), (regBits s), off, 0⟩, none)
  | .jsgt64Imm d imm off => (⟨0x65, (regBits d), 0, off, imm⟩, none)
  | .jsgt64Reg d s off => (⟨0x6d, (regBits d), (regBits s), off, 0⟩, none)
  | .jsgt32Imm d imm off => (⟨0x66, (regBits d), 0, off, imm⟩, none)
  | .jsgt32Reg d s off => (⟨0x6e, (regBits d), (regBits s), off, 0⟩, none)
  | .jsge64Imm d imm off => (⟨0x75, (regBits d), 0, off, imm⟩, none)
  | .jsge64Reg d s off => (⟨0x7d, (regBits d), (regBits s), off, 0⟩, none)
  | .jsge32Imm d imm off => (⟨0x76, (regBits d), 0, off, imm⟩, none)
  | .jsge32Reg d s off => (⟨0x7e, (regBits d), (regBits s), off, 0⟩, none)
  | .jlt64Imm d imm off => (⟨0xa5, (regBits d), 0, off, imm⟩, none)
  | .jlt64Reg d s off => (⟨0xad, (regBits d), (regBits s), off, 0⟩, none)
  | .jlt32Imm d imm off => (⟨0xa6, (regBits d), 0, off, imm⟩, none)
  | .jlt32Reg d s off => (⟨0xae, (regBits d), (regBits s), off, 0⟩, none)
  | .jle64Imm d imm off => (⟨0xb5, (regBits d), 0, off, imm⟩, none)
  | .jle64Reg d s off => (⟨0xbd, (regBits d), (regBits s), off, 0⟩, none)
  | .jle32Imm d imm off => (⟨0xb6, (regBits d), 0, off, imm⟩, none)
  | .jle32Reg d s off => (⟨0xbe, (regBits d), (regBits s), off, 0⟩, none)
  | .jslt64Imm d imm off => (⟨0xc5, (regBits d), 0, off, imm⟩, none)
  | .jslt64Reg d s off => (⟨0xcd, (regBits d), (regBits s), off, 0⟩, none)
  | .jslt32Imm d imm off => (⟨0xc6, (regBits d), 0, off, imm⟩, none)
  | .jslt32Reg d s off => (⟨0xce, (regBits d), (regBits s), off, 0⟩, none)
  | .jsle64Imm d imm off => (⟨0xd5, (regBits d), 0, off, imm⟩, none)
  | .jsle64Reg d s off => (⟨0xdd, (regBits d), (regBits s), off, 0⟩, none)
  | .jsle32Imm d imm off => (⟨0xd6, (regBits d), 0, off, imm⟩, none)
  | .jsle32Reg d s off => (⟨0xde, (regBits d), (regBits s), off, 0⟩, none)
  | .callHelper imm => (⟨0x85, 0, 0, 0, imm⟩, none)
  | .callLocal imm => (⟨0x85, 0, 1, 0, imm⟩, none)
  | .callBtf imm => (⟨0x85, 0, 2, 0, imm⟩, none)
  | .exit => (⟨0x95, 0, 0, 0, 0⟩, none)
  | .ldxw d s off => (⟨0x61, (regBits d), (regBits s), off, 0⟩, none)
  | .ldxh d s off => (⟨0x69, (regBits d), (regBits s), off, 0⟩, none)
  | .ldxb d s off => (⟨0x71, (regBits d), (regBits s), off, 0⟩, none)
  | .ldxdw d s off => (⟨0x79, (regBits d), (regBits s), off, 0⟩, none)
  | .ldxsw d s off => (⟨0x81, (regBits d), (regBits s), off, 0⟩, none)
  | .ldxsh d s off => (⟨0x89, (regBits d), (regBits s), off, 0⟩, none)
  | .ldxsb d s off => (⟨0x91, (regBits d), (regBits s), off, 0⟩, none)
  | .stw d off imm => (⟨0x62, (regBits d), 0, off, imm⟩, none)
  | .sth d off imm => (⟨0x6a, (regBits d), 0, off, imm⟩, none)
  | .stb d off imm => (⟨0x72, (regBits d), 0, off, imm⟩, none)
  | .stdw d off imm => (⟨0x7a, (regBits d), 0, off, imm⟩, none)
  | .stxw d s off => (⟨0x63, (regBits d), (regBits s), off, 0⟩, none)
  | .stxh d s off => (⟨0x6b, (regBits d), (regBits s), off, 0⟩, none)
  | .stxb d s off => (⟨0x73, (regBits d), (regBits s), off, 0⟩, none)
  | .stxdw d s off => (⟨0x7b, (regBits d), (regBits s), off, 0⟩, none)
  | .atomicAdd32 d s off => (⟨0xc3, (regBits d), (regBits s), off, 0⟩, none)
  | .atomicFetchAdd32 d s off => (⟨0xc3, (regBits d), (regBits s), off, 0x1⟩, none)
  | .atomicOr32 d s off => (⟨0xc3, (regBits d), (regBits s), off, 0x40⟩, none)
  | .atomicFetchOr32 d s off => (⟨0xc3, (regBits d), (regBits s), off, 0x41⟩, none)
  | .atomicAnd32 d s off => (⟨0xc3, (regBits d), (regBits s), off, 0x50⟩, none)
  | .atomicFetchAnd32 d s off => (⟨0xc3, (regBits d), (regBits s), off, 0x51⟩, none)
  | .atomicXor32 d s off => (⟨0xc3, (regBits d), (regBits s), off, 0xa0⟩, none)
  | .atomicFetchXor32 d s off => (⟨0xc3, (regBits d), (regBits s), off, 0xa1⟩, none)
  | .atomicXchg32 d s off => (⟨0xc3, (regBits d), (regBits s), off, 0xe1⟩, none)
  | .atomicCmpxchg32 d s off => (⟨0xc3, (regBits d), (regBits s), off, 0xf1⟩, none)
  | .atomicAdd64 d s off => (⟨0xdb, (regBits d), (regBits s), off, 0⟩, none)
  | .atomicFetchAdd64 d s off => (⟨0xdb, (regBits d), (regBits s), off, 0x1⟩, none)
  | .atomicOr64 d s off => (⟨0xdb, (regBits d), (regBits s), off, 0x40⟩, none)
  | .atomicFetchOr64 d s off => (⟨0xdb, (regBits d), (regBits s), off, 0x41⟩, none)
  | .atomicAnd64 d s off => (⟨0xdb, (regBits d), (regBits s), off, 0x50⟩, none)
  | .atomicFetchAnd64 d s off => (⟨0xdb, (regBits d), (regBits s), off, 0x51⟩, none)
  | .atomicXor64 d s off => (⟨0xdb, (regBits d), (regBits s), off, 0xa0⟩, none)
  | .atomicFetchXor64 d s off => (⟨0xdb, (regBits d), (regBits s), off, 0xa1⟩, none)
  | .atomicXchg64 d s off => (⟨0xdb, (regBits d), (regBits s), off, 0xe1⟩, none)
  | .atomicCmpxchg64 d s off => (⟨0xdb, (regBits d), (regBits s), off, 0xf1⟩, none)
  | .lddw d imm next => (⟨0x18, (regBits d), 0, 0, imm⟩, some next)
  | .ldMapFd d imm => (⟨0x18, (regBits d), 1, 0, imm⟩, some 0)
  | .ldMapValFd d imm next => (⟨0x18, (regBits d), 2, 0, imm⟩, some next)
  | .ldVarAddr d imm => (⟨0x18, (regBits d), 3, 0, imm⟩, some 0)
  | .ldCodeAddr d imm => (⟨0x18, (regBits d), 4, 0, imm⟩, some 0)
  | .ldMapIdx d imm => (⟨0x18, (regBits d), 5, 0, imm⟩, some 0)
  | .ldMapValIdx d imm next => (⟨0x18, (regBits d), 6, 0, imm⟩, some next)
  | .ldabsw imm => (⟨0x20, 0, 0, 0, imm⟩, none)
  | .ldabsh imm => (⟨0x28, 0, 0, 0, imm⟩, none)
  | .ldabsb imm => (⟨0x30, 0, 0, 0, imm⟩, none)
  | .ldindw s imm => (⟨0x40, 0, (regBits s), 0, imm⟩, none)
  | .ldindh s imm => (⟨0x48, 0, (regBits s), 0, imm⟩, none)
  | .ldindb s imm => (⟨0x50, 0, (regBits s), 0, imm⟩, none)

/-- The slots of an instruction: one, or two where it is wide (30_encoding.md R48, R49, R54). -/
def encode (e : HostEndian) (i : Instr) : Slot × Option Slot :=
  (i.encodeFields.1.slot e, i.encodeFields.2.map fun n => Fields.slot e ⟨0, 0, 0, 0, n⟩)

/-- The slots of the instruction whose bits are `w`, numbered as spec/opcode_table.json numbers them: the
canonical word W in bits 63..0 and W2 of the second slot in bits 127..64 (30_encoding.md R51). Bits from
`nbits` on are zero. -/
def tableSlots (e : HostEndian) (nbits w : Nat) : Slot × Slot :=
  let v := w % 2 ^ nbits
  ((Fields.ofWord (BitVec.ofNat 64 v)).slot e, (Fields.ofWord (BitVec.ofNat 64 (v / 2 ^ 64))).slot e)

/-- What the decoder reads, at the default parameters, from the instruction whose bits are `w`. -/
def decodeTableWord (nbits w : Nat) : Option Instr :=
  let p := tableSlots Machine.defaultParams.hostEndian nbits w
  match decode Machine.defaultParams.hostEndian Machine.defaultParams.strictReserved p.1 (some p.2) with
  | .ok i => some i
  | .error _ => none

end Sys2Proof
end

