-- ==== Sys2Proof/Machine/Fetch.lean ====
section
/-! DEFINITION. Fetching the instruction at `pc` from program text, and placing one there. -/

namespace Sys2Proof.Machine

/-- Fetch and decode the instruction at `pc` (30_encoding.md R61; 42_jump.md R159; 60_exceptions.md R288,
R296). A `pc` that is not the first slot of an instruction of the program is a `BadJumpTarget`, checked before
decoding (10_state.md R23, log 12); a slot that does not decode, or whose group is not supported, is an
`IllegalInstruction`. -/
def State.fetch (s : State) : Except Fault Instr :=
  if s.isStart s.pc then
    match s.program[s.pc]? with
    | none => .error (.badJumpTarget s.pc)
    | some s1 =>
      match decode s.params.hostEndian s.params.strictReserved s1 s.program[s.pc + 1]? with
      | .error _ => .error (.illegalInstruction s.pc)
      | .ok i => if i.wellFormed s.params then .ok i else .error (.illegalInstruction s.pc)
  else .error (.badJumpTarget s.pc)

/-- The slots before `pc`: as they are, filled up with zero slots, and all zero where the last of them would be
the first slot of a wide instruction that covers `pc`. -/
def slotsBefore (program : List Slot) (pc : Nat) : List Slot :=
  let front := program.take pc ++ List.replicate (pc - program.length) Slot.zero
  if startsAt (front ++ [Slot.zero]) false pc then front else List.replicate pc Slot.zero

/-- `program` with two slots put at `pc`. -/
def placeSlots (program : List Slot) (pc : Nat) (p : Slot × Slot) : List Slot :=
  slotsBefore program pc ++ p.1 :: p.2 :: program.drop (pc + 2)

end Sys2Proof.Machine
end

