-- ==== Sys2Proof/Machine/Step.lean ====
section
/-! DEFINITION. One step: fetch, decode, execute (60_exceptions.md R286; 70_reset_and_hazards.md R313). -/

namespace Sys2Proof.Machine

/-- One step. Its outcomes are a next state, a fault, and, for a run that has ended, a refusal: there is no later
step (60_exceptions.md R286; log 11). -/
def step (s : State) : Host.Outcome State Fault Refusal :=
  match s.result with
  | some _ => .refused .runEnded
  | none =>
    match s.fetch with
    | .error f => .fault f
    | .ok i => exec i s

/-- The state with the instruction whose bits are `w` placed at `pc`, in the host's byte order, and the run not
ended, so that the next step runs it. It stands for the host's loading of a program (70_reset_and_hazards.md
R308; log 5). -/
def State.withFetchWord (s : State) (nbits w : Nat) : State :=
  { s with
    program := placeSlots s.program s.pc (tableSlots s.params.hostEndian nbits w)
    result := none }

end Sys2Proof.Machine
end

