-- ==== Sys2Proof/Safety.lean ====
section
/-! DEFINITION. The terms in which claims about the machine are made: what an instruction writes and reads, what
a step leaves unchanged, when an access is allowed, and the invariant of a run. -/

namespace Sys2Proof

/-- The register that the encoding of an instruction makes it write: `dst_reg` of arithmetic, byte swaps, loads and
64-bit immediates, `src_reg` of atomics with FETCH other than CMPXCHG (60_exceptions.md R289). -/
def Instr.destination : Instr → Option Reg
  | .add64Imm d _ => some d
  | .add64Reg d _ => some d
  | .add32Imm d _ => some d
  | .add32Reg d _ => some d
  | .sub64Imm d _ => some d
  | .sub64Reg d _ => some d
  | .sub32Imm d _ => some d
  | .sub32Reg d _ => some d
  | .mul64Imm d _ => some d
  | .mul64Reg d _ => some d
  | .mul32Imm d _ => some d
  | .mul32Reg d _ => some d
  | .div64Imm d _ => some d
  | .div64Reg d _ => some d
  | .div32Imm d _ => some d
  | .div32Reg d _ => some d
  | .sdiv64Imm d _ => some d
  | .sdiv64Reg d _ => some d
  | .sdiv32Imm d _ => some d
  | .sdiv32Reg d _ => some d
  | .or64Imm d _ => some d
  | .or64Reg d _ => some d
  | .or32Imm d _ => some d
  | .or32Reg d _ => some d
  | .and64Imm d _ => some d
  | .and64Reg d _ => some d
  | .and32Imm d _ => some d
  | .and32Reg d _ => some d
  | .lsh64Imm d _ => some d
  | .lsh64Reg d _ => some d
  | .lsh32Imm d _ => some d
  | .lsh32Reg d _ => some d
  | .rsh64Imm d _ => some d
  | .rsh64Reg d _ => some d
  | .rsh32Imm d _ => some d
  | .rsh32Reg d _ => some d
  | .mod64Imm d _ => some d
  | .mod64Reg d _ => some d
  | .mod32Imm d _ => some d
  | .mod32Reg d _ => some d
  | .smod64Imm d _ => some d
  | .smod64Reg d _ => some d
  | .smod32Imm d _ => some d
  | .smod32Reg d _ => some d
  | .xor64Imm d _ => some d
  | .xor64Reg d _ => some d
  | .xor32Imm d _ => some d
  | .xor32Reg d _ => some d
  | .mov64Imm d _ => some d
  | .mov64Reg d _ => some d
  | .mov32Imm d _ => some d
  | .mov32Reg d _ => some d
  | .arsh64Imm d _ => some d
  | .arsh64Reg d _ => some d
  | .arsh32Imm d _ => some d
  | .arsh32Reg d _ => some d
  | .neg64 d => some d
  | .neg32 d => some d
  | .movsx64From8 d _ => some d
  | .movsx64From16 d _ => some d
  | .movsx64From32 d _ => some d
  | .movsx32From8 d _ => some d
  | .movsx32From16 d _ => some d
  | .le16 d => some d
  | .le32 d => some d
  | .le64 d => some d
  | .be16 d => some d
  | .be32 d => some d
  | .be64 d => some d
  | .bswap16 d => some d
  | .bswap32 d => some d
  | .bswap64 d => some d
  | .ja _ => none
  | .ja32 _ => none
  | .jeq64Imm _ _ _ => none
  | .jeq64Reg _ _ _ => none
  | .jeq32Imm _ _ _ => none
  | .jeq32Reg _ _ _ => none
  | .jgt64Imm _ _ _ => none
  | .jgt64Reg _ _ _ => none
  | .jgt32Imm _ _ _ => none
  | .jgt32Reg _ _ _ => none
  | .jge64Imm _ _ _ => none
  | .jge64Reg _ _ _ => none
  | .jge32Imm _ _ _ => none
  | .jge32Reg _ _ _ => none
  | .jset64Imm _ _ _ => none
  | .jset64Reg _ _ _ => none
  | .jset32Imm _ _ _ => none
  | .jset32Reg _ _ _ => none
  | .jne64Imm _ _ _ => none
  | .jne64Reg _ _ _ => none
  | .jne32Imm _ _ _ => none
  | .jne32Reg _ _ _ => none
  | .jsgt64Imm _ _ _ => none
  | .jsgt64Reg _ _ _ => none
  | .jsgt32Imm _ _ _ => none
  | .jsgt32Reg _ _ _ => none
  | .jsge64Imm _ _ _ => none
  | .jsge64Reg _ _ _ => none
  | .jsge32Imm _ _ _ => none
  | .jsge32Reg _ _ _ => none
  | .jlt64Imm _ _ _ => none
  | .jlt64Reg _ _ _ => none
  | .jlt32Imm _ _ _ => none
  | .jlt32Reg _ _ _ => none
  | .jle64Imm _ _ _ => none
  | .jle64Reg _ _ _ => none
  | .jle32Imm _ _ _ => none
  | .jle32Reg _ _ _ => none
  | .jslt64Imm _ _ _ => none
  | .jslt64Reg _ _ _ => none
  | .jslt32Imm _ _ _ => none
  | .jslt32Reg _ _ _ => none
  | .jsle64Imm _ _ _ => none
  | .jsle64Reg _ _ _ => none
  | .jsle32Imm _ _ _ => none
  | .jsle32Reg _ _ _ => none
  | .callHelper _ => none
  | .callLocal _ => none
  | .callBtf _ => none
  | .exit => none
  | .ldxw d _ _ => some d
  | .ldxh d _ _ => some d
  | .ldxb d _ _ => some d
  | .ldxdw d _ _ => some d
  | .ldxsw d _ _ => some d
  | .ldxsh d _ _ => some d
  | .ldxsb d _ _ => some d
  | .stw _ _ _ => none
  | .sth _ _ _ => none
  | .stb _ _ _ => none
  | .stdw _ _ _ => none
  | .stxw _ _ _ => none
  | .stxh _ _ _ => none
  | .stxb _ _ _ => none
  | .stxdw _ _ _ => none
  | .atomicAdd32 _ _ _ => none
  | .atomicFetchAdd32 _ s _ => some s
  | .atomicOr32 _ _ _ => none
  | .atomicFetchOr32 _ s _ => some s
  | .atomicAnd32 _ _ _ => none
  | .atomicFetchAnd32 _ s _ => some s
  | .atomicXor32 _ _ _ => none
  | .atomicFetchXor32 _ s _ => some s
  | .atomicXchg32 _ s _ => some s
  | .atomicCmpxchg32 _ _ _ => none
  | .atomicAdd64 _ _ _ => none
  | .atomicFetchAdd64 _ s _ => some s
  | .atomicOr64 _ _ _ => none
  | .atomicFetchOr64 _ s _ => some s
  | .atomicAnd64 _ _ _ => none
  | .atomicFetchAnd64 _ s _ => some s
  | .atomicXor64 _ _ _ => none
  | .atomicFetchXor64 _ s _ => some s
  | .atomicXchg64 _ s _ => some s
  | .atomicCmpxchg64 _ _ _ => none
  | .lddw d _ _ => some d
  | .ldMapFd d _ => some d
  | .ldMapValFd d _ _ => some d
  | .ldVarAddr d _ => some d
  | .ldCodeAddr d _ => some d
  | .ldMapIdx d _ => some d
  | .ldMapValIdx d _ _ => some d
  | .ldabsw _ => none
  | .ldabsh _ => none
  | .ldabsb _ => none
  | .ldindw _ _ => none
  | .ldindh _ _ => none
  | .ldindb _ _ => none

/-- The registers that an instruction reads (60_exceptions.md R290). What a helper reads is the helper's business. -/
def Instr.reads : Instr → List Reg
  | .add64Imm d _ => [d]
  | .add64Reg d s => [d, s]
  | .add32Imm d _ => [d]
  | .add32Reg d s => [d, s]
  | .sub64Imm d _ => [d]
  | .sub64Reg d s => [d, s]
  | .sub32Imm d _ => [d]
  | .sub32Reg d s => [d, s]
  | .mul64Imm d _ => [d]
  | .mul64Reg d s => [d, s]
  | .mul32Imm d _ => [d]
  | .mul32Reg d s => [d, s]
  | .div64Imm d _ => [d]
  | .div64Reg d s => [d, s]
  | .div32Imm d _ => [d]
  | .div32Reg d s => [d, s]
  | .sdiv64Imm d _ => [d]
  | .sdiv64Reg d s => [d, s]
  | .sdiv32Imm d _ => [d]
  | .sdiv32Reg d s => [d, s]
  | .or64Imm d _ => [d]
  | .or64Reg d s => [d, s]
  | .or32Imm d _ => [d]
  | .or32Reg d s => [d, s]
  | .and64Imm d _ => [d]
  | .and64Reg d s => [d, s]
  | .and32Imm d _ => [d]
  | .and32Reg d s => [d, s]
  | .lsh64Imm d _ => [d]
  | .lsh64Reg d s => [d, s]
  | .lsh32Imm d _ => [d]
  | .lsh32Reg d s => [d, s]
  | .rsh64Imm d _ => [d]
  | .rsh64Reg d s => [d, s]
  | .rsh32Imm d _ => [d]
  | .rsh32Reg d s => [d, s]
  | .mod64Imm d _ => [d]
  | .mod64Reg d s => [d, s]
  | .mod32Imm d _ => [d]
  | .mod32Reg d s => [d, s]
  | .smod64Imm d _ => [d]
  | .smod64Reg d s => [d, s]
  | .smod32Imm d _ => [d]
  | .smod32Reg d s => [d, s]
  | .xor64Imm d _ => [d]
  | .xor64Reg d s => [d, s]
  | .xor32Imm d _ => [d]
  | .xor32Reg d s => [d, s]
  | .mov64Imm _ _ => []
  | .mov64Reg _ s => [s]
  | .mov32Imm _ _ => []
  | .mov32Reg _ s => [s]
  | .arsh64Imm d _ => [d]
  | .arsh64Reg d s => [d, s]
  | .arsh32Imm d _ => [d]
  | .arsh32Reg d s => [d, s]
  | .neg64 d => [d]
  | .neg32 d => [d]
  | .movsx64From8 _ s => [s]
  | .movsx64From16 _ s => [s]
  | .movsx64From32 _ s => [s]
  | .movsx32From8 _ s => [s]
  | .movsx32From16 _ s => [s]
  | .le16 d => [d]
  | .le32 d => [d]
  | .le64 d => [d]
  | .be16 d => [d]
  | .be32 d => [d]
  | .be64 d => [d]
  | .bswap16 d => [d]
  | .bswap32 d => [d]
  | .bswap64 d => [d]
  | .ja _ => []
  | .ja32 _ => []
  | .jeq64Imm d _ _ => [d]
  | .jeq64Reg d s _ => [d, s]
  | .jeq32Imm d _ _ => [d]
  | .jeq32Reg d s _ => [d, s]
  | .jgt64Imm d _ _ => [d]
  | .jgt64Reg d s _ => [d, s]
  | .jgt32Imm d _ _ => [d]
  | .jgt32Reg d s _ => [d, s]
  | .jge64Imm d _ _ => [d]
  | .jge64Reg d s _ => [d, s]
  | .jge32Imm d _ _ => [d]
  | .jge32Reg d s _ => [d, s]
  | .jset64Imm d _ _ => [d]
  | .jset64Reg d s _ => [d, s]
  | .jset32Imm d _ _ => [d]
  | .jset32Reg d s _ => [d, s]
  | .jne64Imm d _ _ => [d]
  | .jne64Reg d s _ => [d, s]
  | .jne32Imm d _ _ => [d]
  | .jne32Reg d s _ => [d, s]
  | .jsgt64Imm d _ _ => [d]
  | .jsgt64Reg d s _ => [d, s]
  | .jsgt32Imm d _ _ => [d]
  | .jsgt32Reg d s _ => [d, s]
  | .jsge64Imm d _ _ => [d]
  | .jsge64Reg d s _ => [d, s]
  | .jsge32Imm d _ _ => [d]
  | .jsge32Reg d s _ => [d, s]
  | .jlt64Imm d _ _ => [d]
  | .jlt64Reg d s _ => [d, s]
  | .jlt32Imm d _ _ => [d]
  | .jlt32Reg d s _ => [d, s]
  | .jle64Imm d _ _ => [d]
  | .jle64Reg d s _ => [d, s]
  | .jle32Imm d _ _ => [d]
  | .jle32Reg d s _ => [d, s]
  | .jslt64Imm d _ _ => [d]
  | .jslt64Reg d s _ => [d, s]
  | .jslt32Imm d _ _ => [d]
  | .jslt32Reg d s _ => [d, s]
  | .jsle64Imm d _ _ => [d]
  | .jsle64Reg d s _ => [d, s]
  | .jsle32Imm d _ _ => [d]
  | .jsle32Reg d s _ => [d, s]
  | .callHelper _ => []
  | .callLocal _ => []
  | .callBtf _ => []
  | .exit => [0]
  | .ldxw _ s _ => [s]
  | .ldxh _ s _ => [s]
  | .ldxb _ s _ => [s]
  | .ldxdw _ s _ => [s]
  | .ldxsw _ s _ => [s]
  | .ldxsh _ s _ => [s]
  | .ldxsb _ s _ => [s]
  | .stw d _ _ => [d]
  | .sth d _ _ => [d]
  | .stb d _ _ => [d]
  | .stdw d _ _ => [d]
  | .stxw d s _ => [d, s]
  | .stxh d s _ => [d, s]
  | .stxb d s _ => [d, s]
  | .stxdw d s _ => [d, s]
  | .atomicAdd32 d s _ => [d, s]
  | .atomicFetchAdd32 d s _ => [d, s]
  | .atomicOr32 d s _ => [d, s]
  | .atomicFetchOr32 d s _ => [d, s]
  | .atomicAnd32 d s _ => [d, s]
  | .atomicFetchAnd32 d s _ => [d, s]
  | .atomicXor32 d s _ => [d, s]
  | .atomicFetchXor32 d s _ => [d, s]
  | .atomicXchg32 d s _ => [d, s]
  | .atomicCmpxchg32 d s _ => [d, s, 0]
  | .atomicAdd64 d s _ => [d, s]
  | .atomicFetchAdd64 d s _ => [d, s]
  | .atomicOr64 d s _ => [d, s]
  | .atomicFetchOr64 d s _ => [d, s]
  | .atomicAnd64 d s _ => [d, s]
  | .atomicFetchAnd64 d s _ => [d, s]
  | .atomicXor64 d s _ => [d, s]
  | .atomicFetchXor64 d s _ => [d, s]
  | .atomicXchg64 d s _ => [d, s]
  | .atomicCmpxchg64 d s _ => [d, s, 0]
  | .lddw _ _ _ => []
  | .ldMapFd _ _ => []
  | .ldMapValFd _ _ _ => []
  | .ldVarAddr _ _ => []
  | .ldCodeAddr _ _ => []
  | .ldMapIdx _ _ => []
  | .ldMapValIdx _ _ _ => []
  | .ldabsw _ => []
  | .ldabsh _ => []
  | .ldabsb _ => []
  | .ldindw _ _ => []
  | .ldindh _ _ => []
  | .ldindb _ _ => []

/-- The instruction class: the three low bits of the opcode (30_encoding.md R56). -/
def Instr.opcodeClass (i : Instr) : BitVec 3 := i.encodeFields.1.opcode.setWidth 3

/-- The number of slots of an instruction (30_encoding.md R48). -/
def Instr.slots (i : Instr) : Nat := if i.encodeFields.2.isSome then 2 else 1

/-- Whether an instruction calls a helper (42_jump.md R212, R215). -/
def Instr.callsHelper (i : Instr) : Prop := ∃ imm, i = .callHelper imm ∨ i = .callBtf imm

namespace Machine

/-! ## Hypotheses about a state -/

/-- An instruction may write register `d`: it is not r10, or r10 is an ordinary register
(60_exceptions.md R289). -/
def State.Writable (s : State) (d : Reg) : Prop := d = 10 → s.params.r10ReadOnly = false

/-- The access is aligned, or misalignment is allowed to it (20_memory.md R39, 44_atomic.md R243). -/
def State.Aligned (s : State) (ea : Word) (n : AccessSize) (k : AccessKind) : Prop :=
  ea.toNat % n.bytes = 0 ∨ (s.params.misaligned = .allow ∧ k ≠ .atomic)

/-- `MEM` admits the access: for every kind that it needs, some rule covers its address, its size and that kind
(20_memory.md R40, 44_atomic.md R244). -/
def State.Admitted (s : State) (ea : Word) (n : AccessSize) (k : AccessKind) : Prop :=
  ∀ j ∈ neededKinds k, ∃ r ∈ s.params.admissions, r.first ≤ ea.toNat ∧ ea.toNat ≤ r.last ∧ r.size = n.bytes ∧
    admissionAllows r j = true

/-- No byte of the access lies in a shared region (20_memory.md R47). -/
def State.Private (s : State) (ea : Word) (n : AccessSize) : Prop :=
  ∀ i < n.bytes, ∀ r ∈ s.params.shared, ¬(r.base ≤ byteAddr ea i ∧ byteAddr ea i < r.base + r.size)

/-- Every byte of the access lies in a shared region (20_memory.md R47). -/
def State.Shared (s : State) (ea : Word) (n : AccessSize) : Prop :=
  ∀ i < n.bytes, ∃ r ∈ s.params.shared, r.base ≤ byteAddr ea i ∧ byteAddr ea i < r.base + r.size

/-- A slot index that a jump may go to (42_jump.md R159). -/
def State.ValidTarget (s : State) (t : Int) : Prop := 0 ≤ t ∧ s.isStart t.toNat = true

/-! ## What a step leaves unchanged -/

/-- Every register but those listed is as before, its unwritten mark included. -/
def KeepsRegsBut (ds : List Reg) (s t : State) : Prop := ∀ r, r ∉ ds → t.reg r = s.reg r

/-- Every byte of data memory reads as before. -/
def KeepsMemory (s t : State) : Prop := ∀ a, t.readByte a = s.readByte a

/-- The parameters, the helper definitions and the program are as before. -/
def KeepsParameters (s t : State) : Prop :=
  t.params = s.params ∧ t.helpers = s.helpers ∧ t.btfHelpers = s.btfHelpers ∧ t.program = s.program

/-- The parameters and the program are as before, and the run has not ended in this step. -/
def KeepsPlatform (s t : State) : Prop := KeepsParameters s t ∧ t.result = s.result

/-- No oracle value has been drawn. The sequence is the model's field (log 9). -/
def KeepsOracle (s t : State) : Prop := t.oracle = s.oracle ∧ t.oracleCount = s.oracleCount

/-- No answer of an undefined helper has been drawn. The answers are the model's field (log 10). -/
def KeepsAnswers (s t : State) : Prop := t.helperAnswers = s.helperAnswers ∧ t.helperCount = s.helperCount

/-- No input of a helper call has been drawn: no answer and no contents of shared regions, which are the model's fields
(log 10, log 33). -/
def KeepsHelpers (s t : State) : Prop :=
  KeepsAnswers s t ∧ t.snapshots = s.snapshots ∧ t.snapshotCount = s.snapshotCount

/-! ## Results -/

/-- The result of an instruction of `k` slots that writes `v` to register `d` and nothing else. -/
def RegisterResult (d : Reg) (v : Word) (k : Nat) (s t : State) : Prop :=
  t.reg d = some v ∧ KeepsRegsBut [d] s t ∧ t.pc = s.pc + k ∧ t.frames = s.frames ∧ KeepsMemory s t ∧
    KeepsPlatform s t ∧ KeepsOracle s t ∧ KeepsHelpers s t

/-- The result of a jump to slot `p`: only `pc` changes. -/
def JumpResult (p : Nat) (s t : State) : Prop :=
  t.pc = p ∧ KeepsRegsBut [] s t ∧ t.frames = s.frames ∧ KeepsMemory s t ∧ KeepsPlatform s t ∧
    KeepsOracle s t ∧ KeepsHelpers s t

/-- Which byte of an `n`-byte value lies at offset `i` from the lowest address, counted from the least significant
(20_memory.md R33). -/
def bytePlace (e : HostEndian) (n i : Nat) : Nat :=
  match e with
  | .little => i
  | .big => n - 1 - i

/-- `v` is the unsigned number of `n` bytes whose byte at offset `i` from the lowest address is `byteAt i`
(20_memory.md R33, R36). -/
def HoldsValue (e : HostEndian) (n : Nat) (byteAt : Nat → Byte) (v : Word) : Prop :=
  v.toNat < 2 ^ (8 * n) ∧ ∀ i < n, byteAt i = v.extractLsb' (8 * bytePlace e n i) 8

/-- The bytes of the access at `ea` hold the low bytes of `v`, and every other byte of data memory reads as before
(20_memory.md R33, R37). -/
def StoresAt (ea : Word) (n : AccessSize) (v : Word) (s t : State) : Prop :=
  (∀ i < n.bytes, t.readByte (byteAddr ea i) = v.extractLsb' (8 * bytePlace s.params.hostEndian n.bytes i) 8) ∧
    ∀ a, (∀ i < n.bytes, a ≠ byteAddr ea i) → t.readByte a = s.readByte a

/-- The result of an instruction that stores `v` at `ea` and changes nothing else but `pc`. -/
def StoreResult (ea : Word) (n : AccessSize) (v : Word) (s t : State) : Prop :=
  StoresAt ea n v s t ∧ KeepsRegsBut [] s t ∧ t.pc = s.pc + 1 ∧ t.frames = s.frames ∧ KeepsPlatform s t ∧
    KeepsOracle s t ∧ KeepsHelpers s t

/-! ## Helpers -/

/-- The arguments that an expression of a helper definition reads (42_jump.md R211). -/
def HelperExpr.args : HelperExpr → List (Fin 5)
  | .const _ => []
  | .arg i => [i]
  | .load _ a => a.args
  | .op _ a b => a.args ++ b.args

/-- The arguments that a helper definition uses for an input: those on the way to the end that it reaches
(42_jump.md R211). -/
def HelperBody.args (x : HelperInput) : HelperBody → List (Fin 5)
  | .ret e ws => e.args ++ ws.flatMap fun w => w.1.args ++ w.2.args
  | .fault _ => []
  | .memoryFault e _ _ _ => e.args
  | .ite c yes no => c.args ++
    match c.eval x with
    | .ok v => if v = 0 then no.args x else yes.args x
    | .error _ => []
  | .undefined => []

/-- The end of a helper definition that is reached for an input; a condition that uses an unwritten argument is an end of
its own (42_jump.md R211). -/
def HelperBody.reached (x : HelperInput) : HelperBody → HelperBody
  | .ret e ws => .ret e ws
  | .fault f => .fault f
  | .memoryFault e n k why => .memoryFault e n k why
  | .ite c yes no =>
    match c.eval x with
    | .ok v => if v = 0 then no.reached x else yes.reached x
    | .error _ => .ite c yes no
  | .undefined => .undefined

/-- The result of a helper call with result `v`, but for data memory and the answers of undefined helpers
(42_jump.md R211); what shared regions held during the call has been drawn (log 33). -/
def HelperReturns (v : Word) (s t : State) : Prop :=
  t.reg 0 = some v ∧ (∀ r ∈ ([1, 2, 3, 4, 5] : List Reg), t.reg r = none) ∧
    KeepsRegsBut [0, 1, 2, 3, 4, 5] s t ∧ t.pc = s.pc + 1 ∧ t.frames = s.frames ∧ KeepsPlatform s t ∧
    KeepsOracle s t ∧ t.snapshots = s.snapshots.tail ∧ t.snapshotCount = s.snapshotCount + 1

/-- The bytes of `ws` have been written in order, so that the last write to an address counts, and every other byte of
data memory reads as before (42_jump.md R211). -/
def WritesBytes (ws : List (Word × Byte)) (s t : State) : Prop :=
  (∀ a, (∀ w ∈ ws, w.1.toNat ≠ a) → t.readByte a = s.readByte a) ∧
    ∀ (before after : List (Word × Byte)) (w : Word × Byte), ws = before ++ w :: after →
      (∀ v ∈ after, v.1 ≠ w.1) → t.readByte w.1.toNat = w.2

/-! ## The invariant of a run -/

/-- A slot index at which execution may go on: the first slot of an instruction, or the end of the program, where
the next fetch faults (42_jump.md R159, R216). -/
def State.Reachable (s : State) (k : Nat) : Prop := s.isStart k = true ∨ k = s.program.length

/-- What every run keeps: memory is in canonical form, at most `MAX_CALL_DEPTH` frames exist (10_state.md R29), and
`pc` and every return slot index are the first slot of an instruction or the end of the program
(10_state.md R23, 42_jump.md R159, R216). -/
def State.Inv (s : State) : Prop :=
  Memory.wf s.mem = true ∧ s.frames.length ≤ s.params.maxCallDepth ∧ s.Reachable s.pc ∧
    ∀ f ∈ s.frames, s.Reachable f.retPc

end Machine

end Sys2Proof
end

