-- ==== Sys2Proof/Certificates/Slice0/Obligations.lean ====
section
/-! DEFINITION. The statements for the provers. Each docstring names the rule of spec/ that the statement
formalises; where a clause rests on a choice of the model it names the log entry. -/

section

open Sys2Proof Sys2Proof.Machine

/-- The 64-bit results that wrap modulo 2^64 (40_alu.md R69, R70, R79). That the immediate of these operations is sign-extended
is 30_encoding.md R60 (a), which the spec derives (log 28). -/
def Obligations.Alu64Results : Prop :=
  ∀ (s : State) (d r : Reg) (imm : Word32) (a b : Word),
    s.Writable d → s.reg d = some a → s.reg r = some b →
    ∀ p ∈ ([
      (.add64Imm d imm, a + imm.signExtend 64), (.add64Reg d r, a + b),
      (.sub64Imm d imm, a - imm.signExtend 64), (.sub64Reg d r, a - b),
      (.mul64Imm d imm, a * imm.signExtend 64), (.mul64Reg d r, a * b),
      (.or64Imm d imm, a ||| imm.signExtend 64), (.or64Reg d r, a ||| b),
      (.and64Imm d imm, a &&& imm.signExtend 64), (.and64Reg d r, a &&& b),
      (.xor64Imm d imm, a ^^^ imm.signExtend 64), (.xor64Reg d r, a ^^^ b), (.neg64 d, -a)] : List (Instr × Word)),
      ∃ t, exec p.1 s = .next t ∧ RegisterResult d p.2 1 s t

/-- The 32-bit results, zero-extended (40_alu.md R69, R70, R72, R79; 10_state.md R22). -/
def Obligations.Alu32Results : Prop :=
  ∀ (s : State) (d r : Reg) (imm : Word32) (a b : Word),
    s.Writable d → s.reg d = some a → s.reg r = some b →
    ∀ p ∈ ([
      (.add32Imm d imm, a.setWidth 32 + imm), (.add32Reg d r, a.setWidth 32 + b.setWidth 32),
      (.sub32Imm d imm, a.setWidth 32 - imm), (.sub32Reg d r, a.setWidth 32 - b.setWidth 32),
      (.mul32Imm d imm, a.setWidth 32 * imm), (.mul32Reg d r, a.setWidth 32 * b.setWidth 32),
      (.or32Imm d imm, a.setWidth 32 ||| imm), (.or32Reg d r, a.setWidth 32 ||| b.setWidth 32),
      (.and32Imm d imm, a.setWidth 32 &&& imm), (.and32Reg d r, a.setWidth 32 &&& b.setWidth 32),
      (.xor32Imm d imm, a.setWidth 32 ^^^ imm), (.xor32Reg d r, a.setWidth 32 ^^^ b.setWidth 32),
      (.neg32 d, -a.setWidth 32)] : List (Instr × Word32)),
      ∃ t, exec p.1 s = .next t ∧ RegisterResult d (p.2.setWidth 64) 1 s t

/-- Zero divisors (40_alu.md R71), for the register and the immediate forms of both classes. -/
def Obligations.ZeroDivisorResults : Prop :=
  ∀ (s : State) (d r : Reg) (imm : Word32) (a b : Word),
    s.Writable d → s.reg d = some a → s.reg r = some b →
    (b = 0 → ∀ p ∈ ([
      (.div64Reg d r, 0), (.sdiv64Reg d r, 0), (.mod64Reg d r, a), (.smod64Reg d r, a)] : List (Instr × Word)),
        ∃ t, exec p.1 s = .next t ∧ RegisterResult d p.2 1 s t) ∧
    (imm = 0 → ∀ p ∈ ([
      (.div64Imm d imm, 0), (.sdiv64Imm d imm, 0), (.mod64Imm d imm, a), (.smod64Imm d imm, a),
      (.div32Imm d imm, 0), (.sdiv32Imm d imm, 0), (.mod32Imm d imm, (a.setWidth 32).setWidth 64),
      (.smod32Imm d imm, (a.setWidth 32).setWidth 64)] : List (Instr × Word)),
        ∃ t, exec p.1 s = .next t ∧ RegisterResult d p.2 1 s t) ∧
    (b.setWidth 32 = 0#32 → ∀ p ∈ ([
      (.div32Reg d r, 0), (.sdiv32Reg d r, 0), (.mod32Reg d r, (a.setWidth 32).setWidth 64),
      (.smod32Reg d r, (a.setWidth 32).setWidth 64)] : List (Instr × Word)),
        ∃ t, exec p.1 s = .next t ∧ RegisterResult d p.2 1 s t)

/-- Shift counts are masked (40_alu.md R76). That the mask applies to the immediate forms too is the decision of
30_encoding.md R60 (D31), a DESIGN CHOICE (log 22). -/
def Obligations.ShiftResults : Prop :=
  ∀ (s : State) (d r : Reg) (imm : Word32) (a b : Word),
    s.Writable d → s.reg d = some a → s.reg r = some b →
    ∀ p ∈ ([
      (.lsh64Imm d imm, a <<< ((imm.signExtend 64) &&& 0x3f#64).toNat),
      (.lsh64Reg d r, a <<< (b &&& 0x3f#64).toNat),
      (.rsh64Imm d imm, a >>> ((imm.signExtend 64) &&& 0x3f#64).toNat),
      (.rsh64Reg d r, a >>> (b &&& 0x3f#64).toNat),
      (.arsh64Imm d imm, a.sshiftRight ((imm.signExtend 64) &&& 0x3f#64).toNat),
      (.arsh64Reg d r, a.sshiftRight (b &&& 0x3f#64).toNat),
      (.lsh32Imm d imm, ((a.setWidth 32) <<< (imm &&& 0x1f#32).toNat).setWidth 64),
      (.lsh32Reg d r, ((a.setWidth 32) <<< ((b.setWidth 32) &&& 0x1f#32).toNat).setWidth 64),
      (.rsh32Imm d imm, ((a.setWidth 32) >>> (imm &&& 0x1f#32).toNat).setWidth 64),
      (.rsh32Reg d r, ((a.setWidth 32) >>> ((b.setWidth 32) &&& 0x1f#32).toNat).setWidth 64),
      (.arsh32Imm d imm, ((a.setWidth 32).sshiftRight (imm &&& 0x1f#32).toNat).setWidth 64),
      (.arsh32Reg d r, ((a.setWidth 32).sshiftRight ((b.setWidth 32) &&& 0x1f#32).toNat).setWidth 64)] :
        List (Instr × Word)),
      ∃ t, exec p.1 s = .next t ∧ RegisterResult d p.2 1 s t

/-- The upper halves never influence a 32-bit result, and the result is zero-extended (40_alu.md R72), with the four
formulas that R72 quotes. That `imm` is sign-extended in the fourth, XOR K of class ALU64, is not in the quoted formula: it is
30_encoding.md R60 (a), which the spec derives (log 28). -/
def Obligations.Alu32UsesLowHalvesOnly : Prop :=
  ∀ (s s' : State) (d r : Reg) (imm : Word32) (a b a' b' : Word),
    s.Writable d → s.reg d = some a → s.reg r = some b →
    s'.Writable d → s'.reg d = some a' → s'.reg r = some b' → s'.params = s.params →
    a.setWidth 32 = a'.setWidth 32 → b.setWidth 32 = b'.setWidth 32 →
    (∀ i ∈ ([
      .add32Imm d imm, .add32Reg d r, .sub32Imm d imm, .sub32Reg d r, .mul32Imm d imm, .mul32Reg d r,
      .div32Imm d imm, .div32Reg d r, .sdiv32Imm d imm, .sdiv32Reg d r, .or32Imm d imm, .or32Reg d r,
      .and32Imm d imm, .and32Reg d r, .lsh32Imm d imm, .lsh32Reg d r, .rsh32Imm d imm, .rsh32Reg d r,
      .mod32Imm d imm, .mod32Reg d r, .smod32Imm d imm, .smod32Reg d r, .xor32Imm d imm, .xor32Reg d r,
      .mov32Imm d imm, .mov32Reg d r, .arsh32Imm d imm, .arsh32Reg d r, .neg32 d, .movsx32From8 d r,
      .movsx32From16 d r] : List Instr),
      ∃ (t t' : State) (w : Word32), exec i s = .next t ∧ exec i s' = .next t' ∧
        t.reg d = some (w.setWidth 64) ∧ t'.reg d = some (w.setWidth 64)) ∧
    (∃ t, exec (.add32Reg d r) s = .next t ∧ t.reg d = some ((a.setWidth 32 + b.setWidth 32 : Word32).setWidth 64)) ∧
    (∃ t, exec (.add64Reg d r) s = .next t ∧ t.reg d = some (a + b)) ∧
    (∃ t, exec (.xor32Imm d imm) s = .next t ∧ t.reg d = some ((a.setWidth 32 ^^^ imm : Word32).setWidth 64)) ∧
    ∃ t, exec (.xor64Imm d imm) s = .next t ∧ t.reg d = some (a ^^^ imm.signExtend 64)

/-- Quotients and remainders (40_alu.md R69, R73, R74); the overflow case is the parameter `SDIV_OVERFLOW` (R75, log 15). -/
def Obligations.DivisionResults : Prop :=
  ∀ (s : State) (d r : Reg) (imm : Word32) (a b : Word),
    s.Writable d → s.reg d = some a → s.reg r = some b →
    ((imm.signExtend 64) ≠ 0#64 → ∀ p ∈ ([
        (.div64Imm d imm, BitVec.ofNat 64 (a.toNat / (imm.signExtend 64).toNat)),
        (.mod64Imm d imm, BitVec.ofNat 64 (a.toNat % (imm.signExtend 64).toNat)),
        (.sdiv64Imm d imm, if (a = BitVec.intMin 64 ∧ (imm.signExtend 64) = -1#64) then s.params.sdivOverflow.quot64
          else BitVec.ofInt 64 (a.toInt.tdiv (imm.signExtend 64).toInt)),
        (.smod64Imm d imm, if (a = BitVec.intMin 64 ∧ (imm.signExtend 64) = -1#64) then s.params.sdivOverflow.rem64
          else BitVec.ofInt 64 (a.toInt - (imm.signExtend 64).toInt * a.toInt.tdiv (imm.signExtend 64).toInt))] :
        List (Instr × Word)),
        ∃ t, exec p.1 s = .next t ∧ RegisterResult d (p.2) 1 s t) ∧
    (b ≠ 0#64 → ∀ p ∈ ([
        (.div64Reg d r, BitVec.ofNat 64 (a.toNat / b.toNat)),
        (.mod64Reg d r, BitVec.ofNat 64 (a.toNat % b.toNat)),
        (.sdiv64Reg d r, if (a = BitVec.intMin 64 ∧ b = -1#64) then s.params.sdivOverflow.quot64
          else BitVec.ofInt 64 (a.toInt.tdiv b.toInt)),
        (.smod64Reg d r, if (a = BitVec.intMin 64 ∧ b = -1#64) then s.params.sdivOverflow.rem64
          else BitVec.ofInt 64 (a.toInt - b.toInt * a.toInt.tdiv b.toInt))] : List (Instr × Word)),
        ∃ t, exec p.1 s = .next t ∧ RegisterResult d (p.2) 1 s t) ∧
    (imm ≠ 0#32 → ∀ p ∈ ([
        (.div32Imm d imm, BitVec.ofNat 32 ((a.setWidth 32).toNat / imm.toNat)),
        (.mod32Imm d imm, BitVec.ofNat 32 ((a.setWidth 32).toNat % imm.toNat)),
        (.sdiv32Imm d imm, if ((a.setWidth 32) = BitVec.intMin 32 ∧ imm = -1#32) then s.params.sdivOverflow.quot32
          else BitVec.ofInt 32 ((a.setWidth 32).toInt.tdiv imm.toInt)),
        (.smod32Imm d imm, if ((a.setWidth 32) = BitVec.intMin 32 ∧ imm = -1#32) then s.params.sdivOverflow.rem32
          else BitVec.ofInt 32 ((a.setWidth 32).toInt - imm.toInt * (a.setWidth 32).toInt.tdiv imm.toInt))] :
        List (Instr × Word32)),
        ∃ t, exec p.1 s = .next t ∧ RegisterResult d (p.2.setWidth 64) 1 s t) ∧
    ((b.setWidth 32) ≠ 0#32 → ∀ p ∈ ([
        (.div32Reg d r, BitVec.ofNat 32 ((a.setWidth 32).toNat / (b.setWidth 32).toNat)),
        (.mod32Reg d r, BitVec.ofNat 32 ((a.setWidth 32).toNat % (b.setWidth 32).toNat)),
        (.sdiv32Reg d r, if ((a.setWidth 32) = BitVec.intMin 32 ∧ (b.setWidth 32) = -1#32) then s.params.sdivOverflow.quot32
          else BitVec.ofInt 32 ((a.setWidth 32).toInt.tdiv (b.setWidth 32).toInt)),
        (.smod32Reg d r, if ((a.setWidth 32) = BitVec.intMin 32 ∧ (b.setWidth 32) = -1#32) then s.params.sdivOverflow.rem32
          else BitVec.ofInt 32 ((a.setWidth 32).toInt - (b.setWidth 32).toInt * (a.setWidth 32).toInt.tdiv (b.setWidth 32).toInt))] :
        List (Instr × Word32)),
        ∃ t, exec p.1 s = .next t ∧ RegisterResult d (p.2.setWidth 64) 1 s t)

/-- Truncated division (40_alu.md R74): `a = n * (a s/ n) + (a s% n)`, and the remainder follows the dividend. -/
def Obligations.SignedDivisionIsTruncated : Prop :=
  ∀ (s : State) (d r : Reg) (imm : Word32) (a b : Word),
    s.Writable d → s.reg d = some a → s.reg r = some b →
    (∀ p ∈ ([(.sdiv64Reg d r, .smod64Reg d r, b), (.sdiv64Imm d imm, .smod64Imm d imm, imm.signExtend 64)] :
        List (Instr × Instr × Word)),
      p.2.2 ≠ 0 → ¬(a = BitVec.intMin 64 ∧ p.2.2 = -1) →
      ∃ (t u : State) (q m : Word), exec p.1 s = .next t ∧ exec p.2.1 s = .next u ∧
        t.reg d = some q ∧ u.reg d = some m ∧ a.toInt = p.2.2.toInt * q.toInt + m.toInt ∧
        m.toInt.natAbs < p.2.2.toInt.natAbs ∧ 0 ≤ a.toInt * m.toInt) ∧
    ∀ p ∈ ([(.sdiv32Reg d r, .smod32Reg d r, b.setWidth 32), (.sdiv32Imm d imm, .smod32Imm d imm, imm)] :
        List (Instr × Instr × Word32)),
      p.2.2 ≠ 0 → ¬(a.setWidth 32 = BitVec.intMin 32 ∧ p.2.2 = -1) →
      ∃ (t u : State) (q m : Word32), exec p.1 s = .next t ∧ exec p.2.1 s = .next u ∧
        t.reg d = some (q.setWidth 64) ∧ u.reg d = some (m.setWidth 64) ∧
        (a.setWidth 32 : Word32).toInt = p.2.2.toInt * q.toInt + m.toInt ∧
        m.toInt.natAbs < p.2.2.toInt.natAbs ∧ 0 ≤ (a.setWidth 32 : Word32).toInt * m.toInt

/-- Moves (40_alu.md R69, R73, R77); they do not read their destination (60_exceptions.md R290). -/
def Obligations.MoveResults : Prop :=
  ∀ (s : State) (d r : Reg) (imm : Word32) (b : Word), s.Writable d → s.reg r = some b →
    ∀ p ∈ ([
      (.mov64Imm d imm, imm.signExtend 64), (.mov64Reg d r, b), (.mov32Imm d imm, imm.setWidth 64),
      (.mov32Reg d r, (b.setWidth 32).setWidth 64), (.movsx64From8 d r, (b.setWidth 8).signExtend 64),
      (.movsx64From16 d r, (b.setWidth 16).signExtend 64), (.movsx64From32 d r, (b.setWidth 32).signExtend 64),
      (.movsx32From8 d r, ((b.setWidth 8).signExtend 32).setWidth 64),
      (.movsx32From16 d r, ((b.setWidth 16).signExtend 32).setWidth 64)] : List (Instr × Word)),
      ∃ t, exec p.1 s = .next t ∧ RegisterResult d p.2 1 s t

/-- MOV of an immediate reads nothing (60_exceptions.md R290). -/
def Obligations.ImmediateMovesNeedNoRegister : Prop :=
  ∀ (s : State) (d : Reg) (imm : Word32), s.Writable d →
    (∃ t, exec (.mov64Imm d imm) s = .next t ∧ RegisterResult d (imm.signExtend 64) 1 s t) ∧
    ∃ t, exec (.mov32Imm d imm) s = .next t ∧ RegisterResult d (imm.setWidth 64) 1 s t

/-- Byte swaps (41_byteswap.md R143, R144; 00_scope.md R12). The zero upper bits are the decision of R145 (log 20). -/
def Obligations.ByteSwapResults : Prop :=
  ∀ (s : State) (d : Reg) (a : Word), s.Writable d → s.reg d = some a →
    (s.params.hostEndian = .little → ∀ p ∈ ([
      (.le16 d, 2, false), (.le32 d, 4, false), (.le64 d, 8, false), (.be16 d, 2, true), (.be32 d, 4, true),
      (.be64 d, 8, true), (.bswap16 d, 2, true), (.bswap32 d, 4, true), (.bswap64 d, 8, true)] :
        List (Instr × Nat × Bool)),
        ∃ (t : State) (v : Word), exec p.1 s = .next t ∧ RegisterResult d v 1 s t ∧ v.toNat < 2 ^ (8 * p.2.1) ∧
          ∀ i < p.2.1, v.extractLsb' (8 * i) 8 = a.extractLsb' (8 * (if p.2.2 then p.2.1 - 1 - i else i)) 8) ∧
    (s.params.hostEndian = .big → ∀ p ∈ ([
      (.le16 d, 2, true), (.le32 d, 4, true), (.le64 d, 8, true), (.be16 d, 2, false), (.be32 d, 4, false),
      (.be64 d, 8, false), (.bswap16 d, 2, true), (.bswap32 d, 4, true), (.bswap64 d, 8, true)] :
        List (Instr × Nat × Bool)),
        ∃ (t : State) (v : Word), exec p.1 s = .next t ∧ RegisterResult d v 1 s t ∧ v.toNat < 2 ^ (8 * p.2.1) ∧
          ∀ i < p.2.1, v.extractLsb' (8 * i) 8 = a.extractLsb' (8 * (if p.2.2 then p.2.1 - 1 - i else i)) 8)

/-- Byte swaps are direction-agnostic (00_scope.md R12): twice is the identity on the low bytes. The zero upper bits of the
16- and 32-bit results are the decision of 41_byteswap.md R145 (D20), a DESIGN CHOICE (log 20). -/
def Obligations.ByteSwapTwice : Prop :=
  ∀ (s : State) (d : Reg) (a : Word), s.Writable d → s.reg d = some a →
    ∀ p ∈ ([
      (.le16 d, 2), (.le32 d, 4), (.le64 d, 8), (.be16 d, 2), (.be32 d, 4), (.be64 d, 8), (.bswap16 d, 2),
      (.bswap32 d, 4), (.bswap64 d, 8)] : List (Instr × Nat)),
      ∃ t u : State, exec p.1 s = .next t ∧ exec p.1 t = .next u ∧
        u.reg d = some (BitVec.ofNat 64 (a.toNat % 2 ^ (8 * p.2)))

/-- Operands of the conditional jumps (42_jump.md R160). That a taken target must be valid is a premise (R159). -/
def Obligations.ConditionalJumpResults : Prop :=
  ∀ (s : State) (d r : Reg) (imm : Word32) (off : BitVec 16) (a b : Word),
    s.reg d = some a → s.reg r = some b →
    ∀ p ∈ ([
      (.jeq64Imm d imm off, decide (a = (imm.signExtend 64 : Word))), (.jeq64Reg d r off, decide (a = b)),
      (.jgt64Imm d imm off, decide ((imm.signExtend 64 : Word).toNat < a.toNat)),
      (.jgt64Reg d r off, decide (b.toNat < a.toNat)),
      (.jge64Imm d imm off, decide ((imm.signExtend 64 : Word).toNat ≤ a.toNat)),
      (.jge64Reg d r off, decide (b.toNat ≤ a.toNat)),
      (.jset64Imm d imm off, decide (a &&& (imm.signExtend 64 : Word) ≠ 0)),
      (.jset64Reg d r off, decide (a &&& b ≠ 0)),
      (.jne64Imm d imm off, decide (a ≠ (imm.signExtend 64 : Word))), (.jne64Reg d r off, decide (a ≠ b)),
      (.jsgt64Imm d imm off, decide ((imm.signExtend 64 : Word).toInt < a.toInt)),
      (.jsgt64Reg d r off, decide (b.toInt < a.toInt)),
      (.jsge64Imm d imm off, decide ((imm.signExtend 64 : Word).toInt ≤ a.toInt)),
      (.jsge64Reg d r off, decide (b.toInt ≤ a.toInt)),
      (.jlt64Imm d imm off, decide (a.toNat < (imm.signExtend 64 : Word).toNat)),
      (.jlt64Reg d r off, decide (a.toNat < b.toNat)),
      (.jle64Imm d imm off, decide (a.toNat ≤ (imm.signExtend 64 : Word).toNat)),
      (.jle64Reg d r off, decide (a.toNat ≤ b.toNat)),
      (.jslt64Imm d imm off, decide (a.toInt < (imm.signExtend 64 : Word).toInt)),
      (.jslt64Reg d r off, decide (a.toInt < b.toInt)),
      (.jsle64Imm d imm off, decide (a.toInt ≤ (imm.signExtend 64 : Word).toInt)),
      (.jsle64Reg d r off, decide (a.toInt ≤ b.toInt)),
      (.jeq32Imm d imm off, decide ((a.setWidth 32 : Word32) = imm)),
      (.jeq32Reg d r off, decide ((a.setWidth 32 : Word32) = (b.setWidth 32 : Word32))),
      (.jgt32Imm d imm off, decide (imm.toNat < (a.setWidth 32 : Word32).toNat)),
      (.jgt32Reg d r off, decide ((b.setWidth 32 : Word32).toNat < (a.setWidth 32 : Word32).toNat)),
      (.jge32Imm d imm off, decide (imm.toNat ≤ (a.setWidth 32 : Word32).toNat)),
      (.jge32Reg d r off, decide ((b.setWidth 32 : Word32).toNat ≤ (a.setWidth 32 : Word32).toNat)),
      (.jset32Imm d imm off, decide ((a.setWidth 32 : Word32) &&& imm ≠ 0)),
      (.jset32Reg d r off, decide ((a.setWidth 32 : Word32) &&& (b.setWidth 32 : Word32) ≠ 0)),
      (.jne32Imm d imm off, decide ((a.setWidth 32 : Word32) ≠ imm)),
      (.jne32Reg d r off, decide ((a.setWidth 32 : Word32) ≠ (b.setWidth 32 : Word32))),
      (.jsgt32Imm d imm off, decide (imm.toInt < (a.setWidth 32 : Word32).toInt)),
      (.jsgt32Reg d r off, decide ((b.setWidth 32 : Word32).toInt < (a.setWidth 32 : Word32).toInt)),
      (.jsge32Imm d imm off, decide (imm.toInt ≤ (a.setWidth 32 : Word32).toInt)),
      (.jsge32Reg d r off, decide ((b.setWidth 32 : Word32).toInt ≤ (a.setWidth 32 : Word32).toInt)),
      (.jlt32Imm d imm off, decide ((a.setWidth 32 : Word32).toNat < imm.toNat)),
      (.jlt32Reg d r off, decide ((a.setWidth 32 : Word32).toNat < (b.setWidth 32 : Word32).toNat)),
      (.jle32Imm d imm off, decide ((a.setWidth 32 : Word32).toNat ≤ imm.toNat)),
      (.jle32Reg d r off, decide ((a.setWidth 32 : Word32).toNat ≤ (b.setWidth 32 : Word32).toNat)),
      (.jslt32Imm d imm off, decide ((a.setWidth 32 : Word32).toInt < imm.toInt)),
      (.jslt32Reg d r off, decide ((a.setWidth 32 : Word32).toInt < (b.setWidth 32 : Word32).toInt)),
      (.jsle32Imm d imm off, decide ((a.setWidth 32 : Word32).toInt ≤ imm.toInt)),
      (.jsle32Reg d r off, decide ((a.setWidth 32 : Word32).toInt ≤ (b.setWidth 32 : Word32).toInt))] :
        List (Instr × Bool)),
      (p.2 = true → s.ValidTarget ((s.pc : Int) + 1 + off.toInt) →
        ∃ t, exec p.1 s = .next t ∧ JumpResult ((s.pc : Int) + 1 + off.toInt).toNat s t) ∧
      (p.2 = false → ∃ t, exec p.1 s = .next t ∧ JumpResult (s.pc + 1) s t)

/-- Unconditional jumps (42_jump.md R158, R164, R165). That ja32 counts from the next slot is the decision of R158 (log 23). -/
def Obligations.UnconditionalJumpResults : Prop :=
  ∀ (s : State) (off : BitVec 16) (imm : Word32),
    ∀ p ∈ ([(.ja off, off.toInt), (.ja32 imm, imm.toInt)] : List (Instr × Int)),
      s.ValidTarget ((s.pc : Int) + 1 + p.2) →
        ∃ t, exec p.1 s = .next t ∧ JumpResult ((s.pc : Int) + 1 + p.2).toNat s t

/-- Bad targets fault at the jump (42_jump.md R159, 60_exceptions.md R292). What counts as the first slot of an instruction
behind an undefined opcode is the model's inference (log 12). -/
def Obligations.BadJumpTargets : Prop :=
  ∀ (s : State) (d r : Reg) (imm : Word32) (off : BitVec 16) (a b : Word),
    s.reg d = some a → s.reg r = some b →
    ∀ p ∈ ([
      (.ja off, off.toInt, true), (.ja32 imm, imm.toInt, true),
      (.jeq64Imm d imm off, off.toInt, decide (a = (imm.signExtend 64 : Word))),
      (.jeq64Reg d r off, off.toInt, decide (a = b)),
      (.jgt64Imm d imm off, off.toInt, decide ((imm.signExtend 64 : Word).toNat < a.toNat)),
      (.jgt64Reg d r off, off.toInt, decide (b.toNat < a.toNat)),
      (.jge64Imm d imm off, off.toInt, decide ((imm.signExtend 64 : Word).toNat ≤ a.toNat)),
      (.jge64Reg d r off, off.toInt, decide (b.toNat ≤ a.toNat)),
      (.jset64Imm d imm off, off.toInt, decide (a &&& (imm.signExtend 64 : Word) ≠ 0)),
      (.jset64Reg d r off, off.toInt, decide (a &&& b ≠ 0)),
      (.jne64Imm d imm off, off.toInt, decide (a ≠ (imm.signExtend 64 : Word))),
      (.jne64Reg d r off, off.toInt, decide (a ≠ b)),
      (.jsgt64Imm d imm off, off.toInt, decide ((imm.signExtend 64 : Word).toInt < a.toInt)),
      (.jsgt64Reg d r off, off.toInt, decide (b.toInt < a.toInt)),
      (.jsge64Imm d imm off, off.toInt, decide ((imm.signExtend 64 : Word).toInt ≤ a.toInt)),
      (.jsge64Reg d r off, off.toInt, decide (b.toInt ≤ a.toInt)),
      (.jlt64Imm d imm off, off.toInt, decide (a.toNat < (imm.signExtend 64 : Word).toNat)),
      (.jlt64Reg d r off, off.toInt, decide (a.toNat < b.toNat)),
      (.jle64Imm d imm off, off.toInt, decide (a.toNat ≤ (imm.signExtend 64 : Word).toNat)),
      (.jle64Reg d r off, off.toInt, decide (a.toNat ≤ b.toNat)),
      (.jslt64Imm d imm off, off.toInt, decide (a.toInt < (imm.signExtend 64 : Word).toInt)),
      (.jslt64Reg d r off, off.toInt, decide (a.toInt < b.toInt)),
      (.jsle64Imm d imm off, off.toInt, decide (a.toInt ≤ (imm.signExtend 64 : Word).toInt)),
      (.jsle64Reg d r off, off.toInt, decide (a.toInt ≤ b.toInt)),
      (.jeq32Imm d imm off, off.toInt, decide ((a.setWidth 32 : Word32) = imm)),
      (.jeq32Reg d r off, off.toInt, decide ((a.setWidth 32 : Word32) = (b.setWidth 32 : Word32))),
      (.jgt32Imm d imm off, off.toInt, decide (imm.toNat < (a.setWidth 32 : Word32).toNat)),
      (.jgt32Reg d r off, off.toInt, decide ((b.setWidth 32 : Word32).toNat < (a.setWidth 32 : Word32).toNat)),
      (.jge32Imm d imm off, off.toInt, decide (imm.toNat ≤ (a.setWidth 32 : Word32).toNat)),
      (.jge32Reg d r off, off.toInt, decide ((b.setWidth 32 : Word32).toNat ≤ (a.setWidth 32 : Word32).toNat)),
      (.jset32Imm d imm off, off.toInt, decide ((a.setWidth 32 : Word32) &&& imm ≠ 0)),
      (.jset32Reg d r off, off.toInt, decide ((a.setWidth 32 : Word32) &&& (b.setWidth 32 : Word32) ≠ 0)),
      (.jne32Imm d imm off, off.toInt, decide ((a.setWidth 32 : Word32) ≠ imm)),
      (.jne32Reg d r off, off.toInt, decide ((a.setWidth 32 : Word32) ≠ (b.setWidth 32 : Word32))),
      (.jsgt32Imm d imm off, off.toInt, decide (imm.toInt < (a.setWidth 32 : Word32).toInt)),
      (.jsgt32Reg d r off, off.toInt, decide ((b.setWidth 32 : Word32).toInt < (a.setWidth 32 : Word32).toInt)),
      (.jsge32Imm d imm off, off.toInt, decide (imm.toInt ≤ (a.setWidth 32 : Word32).toInt)),
      (.jsge32Reg d r off, off.toInt, decide ((b.setWidth 32 : Word32).toInt ≤ (a.setWidth 32 : Word32).toInt)),
      (.jlt32Imm d imm off, off.toInt, decide ((a.setWidth 32 : Word32).toNat < imm.toNat)),
      (.jlt32Reg d r off, off.toInt, decide ((a.setWidth 32 : Word32).toNat < (b.setWidth 32 : Word32).toNat)),
      (.jle32Imm d imm off, off.toInt, decide ((a.setWidth 32 : Word32).toNat ≤ imm.toNat)),
      (.jle32Reg d r off, off.toInt, decide ((a.setWidth 32 : Word32).toNat ≤ (b.setWidth 32 : Word32).toNat)),
      (.jslt32Imm d imm off, off.toInt, decide ((a.setWidth 32 : Word32).toInt < imm.toInt)),
      (.jslt32Reg d r off, off.toInt, decide ((a.setWidth 32 : Word32).toInt < (b.setWidth 32 : Word32).toInt)),
      (.jsle32Imm d imm off, off.toInt, decide ((a.setWidth 32 : Word32).toInt ≤ imm.toInt)),
      (.jsle32Reg d r off, off.toInt, decide ((a.setWidth 32 : Word32).toInt ≤ (b.setWidth 32 : Word32).toInt))] :
        List (Instr × Int × Bool)),
      p.2.2 = true → ¬ s.ValidTarget ((s.pc : Int) + 1 + p.2.1) →
        exec p.1 s = .fault (.badJumpTarget ((s.pc : Int) + 1 + p.2.1))

/-- The first slots of instructions, decoded sequentially (42_jump.md R159, 30_encoding.md R48). That a slot with an undefined
opcode counts as one slot is the model's inference (log 12). -/
def Obligations.InstructionStarts : Prop :=
  ∀ s : State, (s.program ≠ [] → s.isStart 0 = true) ∧
    (∀ k, s.program.length ≤ k → s.isStart k = false) ∧
    ∀ (k : Nat) (x : Slot), s.isStart k = true → s.program[k]? = some x →
      (x.b0 ≠ 0x18 → (s.isStart (k + 1) = true ↔ k + 1 < s.program.length)) ∧
      (x.b0 = 0x18 → s.isStart (k + 1) = false ∧ (s.isStart (k + 2) = true ↔ k + 2 < s.program.length))

/-- Program-local calls (42_jump.md R213, R214; 10_state.md R29). The register roles are presumed with the spec (log 17). -/
def Obligations.LocalCallResult : Prop :=
  ∀ (s : State) (imm : Word32), s.frames.length < s.params.maxCallDepth →
    s.ValidTarget ((s.pc : Int) + 1 + imm.toInt) →
      ∃ t, exec (.callLocal imm) s = .next t ∧ t.pc = ((s.pc : Int) + 1 + imm.toInt).toNat ∧
        t.frames = ⟨s.pc + 1, s.reg 6, s.reg 7, s.reg 8, s.reg 9, s.reg 10⟩ :: s.frames ∧
        t.reg 10 = (s.reg 10).map (fun v => v - s.params.stackSize) ∧
        (∀ r ∈ ([0, 6, 7, 8, 9] : List Reg), t.reg r = none) ∧ KeepsRegsBut [0, 6, 7, 8, 9, 10] s t ∧
        KeepsMemory s t ∧ KeepsPlatform s t ∧ KeepsOracle s t ∧ KeepsHelpers s t

/-- The faults of `call_local` and their order (42_jump.md R214; 60_exceptions.md R293, R296). The depth limit and
`CallDepthExceeded` are PRESUMED with the spec (decision D14, log 17); what counts as the first slot of an instruction
behind an undefined opcode is the model's inference (log 12). -/
def Obligations.LocalCallFaults : Prop :=
  ∀ (s : State) (imm : Word32),
    (s.params.maxCallDepth ≤ s.frames.length → exec (.callLocal imm) s = .fault .callDepthExceeded) ∧
    (s.frames.length < s.params.maxCallDepth → ¬ s.ValidTarget ((s.pc : Int) + 1 + imm.toInt) →
      exec (.callLocal imm) s = .fault (.badJumpTarget ((s.pc : Int) + 1 + imm.toInt)))

/-- The normal end of a run (70_reset_and_hazards.md R310, 42_jump.md R216). That the result is a field of the state and a
later step a refusal is the model's form (log 11). -/
def Obligations.ExitEndsTheRun : Prop :=
  ∀ (s : State) (v : Word), s.frames = [] → s.reg 0 = some v →
    ∃ t, exec .exit s = .next t ∧ t.result = some v ∧ t.pc = s.pc ∧ KeepsRegsBut [] s t ∧ t.frames = [] ∧
      KeepsMemory s t ∧ KeepsParameters s t ∧ KeepsOracle s t ∧ KeepsHelpers s t ∧
      step t = .refused .runEnded

/-- Return from a program-local function (42_jump.md R213, R216). Restoring r6 to r10 and making r1 to r5 unwritten are
PRESUMED with the spec (decision D14, log 17). -/
def Obligations.ExitReturnsToTheCaller : Prop :=
  ∀ (s : State) (v : Word) (f : Frame) (rest : List Frame), s.frames = f :: rest → s.reg 0 = some v →
    ∃ t, exec .exit s = .next t ∧ t.pc = f.retPc ∧ t.frames = rest ∧ t.reg 0 = some v ∧
      (∀ r ∈ ([1, 2, 3, 4, 5] : List Reg), t.reg r = none) ∧ t.reg 6 = f.r6 ∧ t.reg 7 = f.r7 ∧ t.reg 8 = f.r8 ∧
      t.reg 9 = f.r9 ∧ t.reg 10 = f.r10 ∧ KeepsMemory s t ∧ KeepsPlatform s t ∧ KeepsOracle s t ∧
      KeepsHelpers s t

/-- Call and return fit together, whatever the callee does in between (42_jump.md R213, R214, R216). That r6 to r10 come back
as they were is PRESUMED with the spec (decision D14, log 17); which targets are valid rests on log 12. -/
def Obligations.CallAndReturn : Prop :=
  ∀ (s u : State) (imm : Word32) (v : Word), s.frames.length < s.params.maxCallDepth →
    s.ValidTarget ((s.pc : Int) + 1 + imm.toInt) → u.reg 0 = some v →
      ∃ t, exec (.callLocal imm) s = .next t ∧
        (u.frames = t.frames → ∃ w, exec .exit u = .next w ∧ w.pc = s.pc + 1 ∧ w.frames = s.frames ∧
          w.reg 0 = some v ∧ ∀ r ∈ ([6, 7, 8, 9, 10] : List Reg), w.reg r = s.reg r)

/-- Helper calls (42_jump.md R211, R212, R215), for every definition of the helper. The convention is PRESUMED with the spec
(decision D15, log 10); a helper may write any byte (log 29, DESIGN CHOICE). That every call draws one snapshot of the
contents of shared regions, which are the shared bytes of `helperInput`, is the model's DESIGN CHOICE (log 33), and no rule
says it. -/
def Obligations.HelperCallResults : Prop :=
  ∀ (s : State) (imm : Word32), ∀ p ∈ ([(.callHelper imm, s.helpers), (.callBtf imm, s.btfHelpers)] :
      List (Instr × List (Word32 × HelperBody))),
    ∀ h, lookup p.2 imm = some h →
      (∀ v ws, h.run s.helperInput = .ok (.done v ws) →
        ∃ t, exec p.1 s = .next t ∧ HelperReturns v s t ∧ WritesBytes ws s t ∧ KeepsAnswers s t) ∧
      ∀ e ws v bytes, h = .ret e ws → e.eval s.helperInput = .ok v → evalWrites s.helperInput ws = .ok bytes →
        ∃ t, exec p.1 s = .next t ∧ HelperReturns v s t ∧ WritesBytes bytes s t ∧ KeepsAnswers s t

/-- What a helper is given as data memory: shared regions hold what other agents wrote before this step, as oracle input, and
do not change within it (70_reset_and_hazards.md R313, R314; 20_memory.md R47). That every call draws them once, as one
snapshot, is the model's DESIGN CHOICE (log 33). The convention of helpers is PRESUMED with the spec (decision D15, log 10);
the byte order of data is the decision of 20_memory.md R33 (log 2, DESIGN CHOICE). -/
def Obligations.HelperMemoryReads : Prop :=
  ∀ (s : State) (imm : Word32), ∀ p ∈ ([(.callHelper imm, s.helpers), (.callBtf imm, s.btfHelpers)] :
      List (Instr × List (Word32 × HelperBody))),
    (∀ (n : AccessSize) (i : Fin 5) (ea : Word), lookup p.2 imm = some (.ret (.load n (.arg i)) []) →
      s.reg (argReg i) = some ea → ∀ b : Nat → Byte,
        (s.Private ea n ∧ (∀ j < n.bytes, s.readByte (byteAddr ea j) = b j)) ∨
          (s.Shared ea n ∧ ∃ c rest, s.snapshots = c :: rest ∧
            ∀ j < n.bytes, Memory.get c (byteAddr ea j) = some (b j)) →
        ∃ (t : State) (v : Word), exec p.1 s = .next t ∧ HoldsValue s.params.hostEndian n.bytes b v ∧
          HelperReturns v s t ∧ KeepsMemory s t ∧ KeepsAnswers s t) ∧
    ∀ e, lookup p.2 imm = some (.ret (.op .sub e e) []) → (∀ i ∈ e.args, s.reg (argReg i) ≠ none) →
      ∃ t, exec p.1 s = .next t ∧ HelperReturns 0 s t ∧ KeepsMemory s t ∧ KeepsAnswers s t

/-- Unwritten arguments (42_jump.md R211, 60_exceptions.md R290), for every form of definition. The convention is PRESUMED with
the spec (decision D15, log 10); which of several unwritten arguments is named is left open (log 4). The shared bytes that `helperInput`
holds, on which a condition may depend, are those of the snapshot of log 33 (DESIGN CHOICE). -/
def Obligations.HelperArgumentsMustBeWritten : Prop :=
  ∀ (s : State) (imm : Word32), ∀ p ∈ ([(.callHelper imm, s.helpers), (.callBtf imm, s.btfHelpers)] :
      List (Instr × List (Word32 × HelperBody))),
    ∀ h, lookup p.2 imm = some h →
      (∀ i ∈ h.args s.helperInput, s.reg (argReg i) = none →
        ∃ j ∈ h.args s.helperInput, s.reg (argReg j) = none ∧ exec p.1 s = .fault (.uninitRegister (argReg j))) ∧
      ((∀ i ∈ h.args s.helperInput, s.reg (argReg i) ≠ none) →
        match h.reached s.helperInput with
        | .ret _ _ => ∃ t, exec p.1 s = .next t
        | .fault f => exec p.1 s = .fault f
        | .memoryFault _ n k why => ∃ ea, exec p.1 s = .fault (.memoryFault ⟨ea, n, k, why⟩)
        | .ite _ _ _ => False
        | .undefined => h.run s.helperInput = .ok .undefined)

/-- A helper is a function of r1 to r5 and data memory (42_jump.md R211, R212, R215), PRESUMED with the spec (decision D15,
log 10); what it is given of shared regions is oracle input (70_reset_and_hazards.md R314), one snapshot for each call,
which is the model's DESIGN CHOICE (log 33). -/
def Obligations.HelperSeesOnlyArgumentsAndMemory : Prop :=
  ∀ (s s' : State) (imm : Word32), s'.helpers = s.helpers → s'.btfHelpers = s.btfHelpers →
    (∀ r ∈ ([1, 2, 3, 4, 5] : List Reg), s'.reg r = s.reg r) → (∀ a, s'.readByte a = s.readByte a) →
    (∀ a, s'.helperByte a = s.helperByte a) → s'.params.hostEndian = s.params.hostEndian →
    ∀ p ∈ ([(.callHelper imm, lookup s.helpers imm), (.callBtf imm, lookup s.btfHelpers imm)] :
        List (Instr × Option HelperBody)),
      (∀ h, p.2 = some h → h.run s.helperInput ≠ .ok .undefined) →
        (∃ f, exec p.1 s = .fault f ∧ exec p.1 s' = .fault f) ∨
        ∃ t t', exec p.1 s = .next t ∧ exec p.1 s' = .next t' ∧ t.reg 0 = t'.reg 0 ∧
          ∀ a, t.readByte a = t'.readByte a

/-- Undefined helpers (42_jump.md R211, 70_reset_and_hazards.md R314): the answer is oracle input, and the statement holds for
every answer. The convention is PRESUMED with the spec (decision D15, log 10); a helper may write any byte (log 29, DESIGN
CHOICE). That this call, as every call of a known helper, also draws one snapshot of the contents of shared regions is the
model's DESIGN CHOICE (log 33), and no rule says it. -/
def Obligations.UndefinedHelperResults : Prop :=
  ∀ (s : State) (imm : Word32), ∀ p ∈ ([(.callHelper imm, .static, s.helpers), (.callBtf imm, .btf, s.btfHelpers)] :
      List (Instr × HelperKind × List (Word32 × HelperBody))),
    ∀ h, lookup p.2.2 imm = some h → h.run s.helperInput = .ok .undefined →
      (∀ i ∈ (s.helperNext p.2.1 imm).uses, s.reg (argReg i) ≠ none) → (s.helperNext p.2.1 imm).fails = none →
        ∃ t, exec p.1 s = .next t ∧ HelperReturns (s.helperNext p.2.1 imm).result s t ∧
          WritesBytes (s.helperNext p.2.1 imm).writes s t ∧ t.helperCount = s.helperCount + 1 ∧
          (∀ q ∈ (s.helperAnswers.filter fun q => decide (q.1 = (p.2.1, imm))).head?,
            s.helperNext p.2.1 imm = q.2) ∧
          (t.helperAnswers.filter fun q => decide (q.1 = (p.2.1, imm))) =
            (s.helperAnswers.filter fun q => decide (q.1 = (p.2.1, imm))).tail ∧
          ∀ key, key ≠ (p.2.1, imm) →
            t.helperAnswers.filter (fun q => decide (q.1 = key)) =
              s.helperAnswers.filter (fun q => decide (q.1 = key))

/-- The faults of helper calls (42_jump.md R211, R212; 60_exceptions.md R294). The fault on an unwritten argument and that on
an unknown identifier belong to the convention that is PRESUMED with the spec (decision D15, log 10). The shared bytes
that `helperInput` holds are those of the snapshot of log 33 (DESIGN CHOICE). -/
def Obligations.HelperCallFaults : Prop :=
  ∀ (s : State) (imm : Word32),
    (lookup s.helpers imm = none → exec (.callHelper imm) s = .fault (.unknownHelper 0 imm)) ∧
    (lookup s.btfHelpers imm = none → exec (.callBtf imm) s = .fault (.unknownHelper 2 imm)) ∧
    ∀ p ∈ ([(.callHelper imm, .static, s.helpers), (.callBtf imm, .btf, s.btfHelpers)] :
        List (Instr × HelperKind × List (Word32 × HelperBody))),
      ∀ h, lookup p.2.2 imm = some h →
        (∀ f, h.run s.helperInput = .error f → exec p.1 s = .fault f) ∧
        (h.run s.helperInput = .ok .undefined →
          (∀ i ∈ (s.helperNext p.2.1 imm).uses, s.reg (argReg i) = none →
            ∃ j ∈ (s.helperNext p.2.1 imm).uses, s.reg (argReg j) = none ∧
              exec p.1 s = .fault (.uninitRegister (argReg j))) ∧
          ((∀ i ∈ (s.helperNext p.2.1 imm).uses, s.reg (argReg i) ≠ none) →
            ∀ f, (s.helperNext p.2.1 imm).fails = some f → exec p.1 s = .fault f))

/-- Loads (43_load_store.md R217, R218; 20_memory.md R35, R36). The byte order of data is the decision of R33 (log 2). -/
def Obligations.LoadResults : Prop :=
  ∀ (s : State) (d r : Reg) (off : BitVec 16) (base : Word), s.Writable d → s.reg r = some base →
    ∀ p ∈ ([
      (.ldxw d r off, .w, fun v => v), (.ldxh d r off, .h, fun v => v), (.ldxb d r off, .b, fun v => v),
      (.ldxdw d r off, .dw, fun v => v), (.ldxsw d r off, .w, fun v => (v.setWidth 32).signExtend 64),
      (.ldxsh d r off, .h, fun v => (v.setWidth 16).signExtend 64),
      (.ldxsb d r off, .b, fun v => (v.setWidth 8).signExtend 64)] : List (Instr × AccessSize × (Word → Word))),
      s.Aligned (effectiveAddress base off) p.2.1 .read → s.Admitted (effectiveAddress base off) p.2.1 .read →
      s.Private (effectiveAddress base off) p.2.1 →
      ∃ (t : State) (v : Word), exec p.1 s = .next t ∧
        HoldsValue s.params.hostEndian p.2.1.bytes
          (fun i => s.readByte (byteAddr (effectiveAddress base off) i)) v ∧
        RegisterResult d (p.2.2 v) 1 s t

/-- Reads of shared regions (20_memory.md R47, log 9): the value is an input, and the statement holds for every value. -/
def Obligations.SharedLoadResults : Prop :=
  ∀ (s : State) (d r : Reg) (off : BitVec 16) (base x : Word) (rest : List Word),
    s.Writable d → s.reg r = some base → s.oracle = x :: rest →
    ∀ p ∈ ([
      (.ldxw d r off, .w, fun v => v), (.ldxh d r off, .h, fun v => v), (.ldxb d r off, .b, fun v => v),
      (.ldxdw d r off, .dw, fun v => v), (.ldxsw d r off, .w, fun v => (v.setWidth 32).signExtend 64),
      (.ldxsh d r off, .h, fun v => (v.setWidth 16).signExtend 64),
      (.ldxsb d r off, .b, fun v => (v.setWidth 8).signExtend 64)] : List (Instr × AccessSize × (Word → Word))),
      s.Aligned (effectiveAddress base off) p.2.1 .read → s.Admitted (effectiveAddress base off) p.2.1 .read →
      s.Shared (effectiveAddress base off) p.2.1 →
      ∃ t, exec p.1 s = .next t ∧
        t.reg d = some (p.2.2 (BitVec.ofNat 64 (x.toNat % 2 ^ (8 * p.2.1.bytes)))) ∧ KeepsRegsBut [d] s t ∧
        t.pc = s.pc + 1 ∧ t.frames = s.frames ∧ KeepsMemory s t ∧ KeepsPlatform s t ∧ KeepsHelpers s t ∧
        t.oracle = rest ∧ t.oracleCount = s.oracleCount + 1

/-- Stores (43_load_store.md R217; 20_memory.md R35, R37). Sign extension of the immediate is the decision of R220 (log
22), the byte order of data that of R33 (log 2). -/
def Obligations.StoreResults : Prop :=
  ∀ (s : State) (d r : Reg) (off : BitVec 16) (imm : Word32) (base v : Word),
    s.reg d = some base → s.reg r = some v →
    ∀ p ∈ ([
      (.stw d off imm, .w, imm.signExtend 64), (.sth d off imm, .h, imm.signExtend 64),
      (.stb d off imm, .b, imm.signExtend 64), (.stdw d off imm, .dw, imm.signExtend 64),
      (.stxw d r off, .w, v), (.stxh d r off, .h, v), (.stxb d r off, .b, v), (.stxdw d r off, .dw, v)] :
        List (Instr × AccessSize × Word)),
      s.Aligned (effectiveAddress base off) p.2.1 .write → s.Admitted (effectiveAddress base off) p.2.1 .write →
      ∃ t, exec p.1 s = .next t ∧ StoreResult (effectiveAddress base off) p.2.1 p.2.2 s t

/-- A load sees the latest store to the same bytes (20_memory.md R44 (a), R36, R37). -/
def Obligations.StoreThenLoad : Prop :=
  ∀ (s : State) (d r q : Reg) (off : BitVec 16) (base v : Word),
    s.Writable q → s.reg d = some base → s.reg r = some v →
    ∀ p ∈ ([(.stxw d r off, .ldxw q d off, .w), (.stxh d r off, .ldxh q d off, .h),
        (.stxb d r off, .ldxb q d off, .b), (.stxdw d r off, .ldxdw q d off, .dw)] :
        List (Instr × Instr × AccessSize)),
      s.Aligned (effectiveAddress base off) p.2.2 .write → s.Admitted (effectiveAddress base off) p.2.2 .write →
      s.Admitted (effectiveAddress base off) p.2.2 .read → s.Private (effectiveAddress base off) p.2.2 →
      ∃ t u : State, exec p.1 s = .next t ∧ exec p.2.1 t = .next u ∧
        u.reg q = some (BitVec.ofNat 64 (v.toNat % 2 ^ (8 * p.2.2.bytes)))

/-- Memory faults and their order (20_memory.md R36, R37, R39; 44_atomic.md R243, R244; 60_exceptions.md R291). The fault of a
misaligned access (D3), that of a misaligned atomic under either setting (D34) and misaligned before not admitted are
DESIGN CHOICE (log 19); what `MEM` admits is a list of rules on address, size and kind (log 7). -/
def Obligations.MemoryFaults : Prop :=
  ∀ (s : State) (d r : Reg) (off : BitVec 16) (imm : Word32) (base : Word),
    ∀ p ∈ ([
      (.ldxw d r off, r, .w, .read), (.ldxh d r off, r, .h, .read), (.ldxb d r off, r, .b, .read),
      (.ldxdw d r off, r, .dw, .read), (.ldxsw d r off, r, .w, .read), (.ldxsh d r off, r, .h, .read),
      (.ldxsb d r off, r, .b, .read), (.stw d off imm, d, .w, .write), (.sth d off imm, d, .h, .write),
      (.stb d off imm, d, .b, .write), (.stdw d off imm, d, .dw, .write), (.stxw d r off, d, .w, .write),
      (.stxh d r off, d, .h, .write), (.stxb d r off, d, .b, .write), (.stxdw d r off, d, .dw, .write),
      (.atomicAdd32 d r off, d, .w, .atomic), (.atomicFetchAdd32 d r off, d, .w, .atomic),
      (.atomicOr32 d r off, d, .w, .atomic), (.atomicFetchOr32 d r off, d, .w, .atomic),
      (.atomicAnd32 d r off, d, .w, .atomic), (.atomicFetchAnd32 d r off, d, .w, .atomic),
      (.atomicXor32 d r off, d, .w, .atomic), (.atomicFetchXor32 d r off, d, .w, .atomic),
      (.atomicXchg32 d r off, d, .w, .atomic), (.atomicCmpxchg32 d r off, d, .w, .atomic),
      (.atomicAdd64 d r off, d, .dw, .atomic), (.atomicFetchAdd64 d r off, d, .dw, .atomic),
      (.atomicOr64 d r off, d, .dw, .atomic), (.atomicFetchOr64 d r off, d, .dw, .atomic),
      (.atomicAnd64 d r off, d, .dw, .atomic), (.atomicFetchAnd64 d r off, d, .dw, .atomic),
      (.atomicXor64 d r off, d, .dw, .atomic), (.atomicFetchXor64 d r off, d, .dw, .atomic),
      (.atomicXchg64 d r off, d, .dw, .atomic), (.atomicCmpxchg64 d r off, d, .dw, .atomic)] :
        List (Instr × Reg × AccessSize × AccessKind)),
      s.reg p.2.1 = some base → (∀ q ∈ p.1.reads, s.reg q ≠ none) →
      (∀ q, p.1.destination = some q → s.Writable q) →
      (¬ s.Aligned (effectiveAddress base off) p.2.2.1 p.2.2.2 → exec p.1 s = .fault (.memoryFault
        ⟨effectiveAddress base off, p.2.2.1.bytes, p.2.2.2, .misaligned⟩)) ∧
      (s.Aligned (effectiveAddress base off) p.2.2.1 p.2.2.2 →
        ¬ s.Admitted (effectiveAddress base off) p.2.2.1 p.2.2.2 → exec p.1 s = .fault (.memoryFault
          ⟨effectiveAddress base off, p.2.2.1.bytes, p.2.2.2, .notAdmitted⟩))

/-- Atomics without FETCH (44_atomic.md R238, R240, R242). The byte order of data is the decision of 20_memory.md R33, a
DESIGN CHOICE (log 2). -/
def Obligations.AtomicResults : Prop :=
  ∀ (s : State) (d r : Reg) (off : BitVec 16) (base v : Word), s.reg d = some base → s.reg r = some v →
    ∀ p ∈ ([
      (.atomicAdd32 d r off, .w, fun x y => x + y), (.atomicOr32 d r off, .w, fun x y => x ||| y),
      (.atomicAnd32 d r off, .w, fun x y => x &&& y), (.atomicXor32 d r off, .w, fun x y => x ^^^ y),
      (.atomicAdd64 d r off, .dw, fun x y => x + y), (.atomicOr64 d r off, .dw, fun x y => x ||| y),
      (.atomicAnd64 d r off, .dw, fun x y => x &&& y), (.atomicXor64 d r off, .dw, fun x y => x ^^^ y)] :
        List (Instr × AccessSize × (Word → Word → Word))),
      s.Aligned (effectiveAddress base off) p.2.1 .atomic → s.Admitted (effectiveAddress base off) p.2.1 .atomic →
      s.Private (effectiveAddress base off) p.2.1 →
      ∃ (t : State) (old : Word), exec p.1 s = .next t ∧
        HoldsValue s.params.hostEndian p.2.1.bytes
          (fun i => s.readByte (byteAddr (effectiveAddress base off) i)) old ∧
        StoreResult (effectiveAddress base off) p.2.1 (p.2.2 old v) s t

/-- Atomics with FETCH and XCHG (44_atomic.md R240, R241). Zero extension of the old 32-bit value is the decision of R242
(log 21), the byte order of data that of 20_memory.md R33 (log 2), both DESIGN CHOICE. -/
def Obligations.AtomicFetchResults : Prop :=
  ∀ (s : State) (d r : Reg) (off : BitVec 16) (base v : Word),
    s.Writable r → s.reg d = some base → s.reg r = some v →
    ∀ p ∈ ([
      (.atomicFetchAdd32 d r off, .w, fun x y => x + y), (.atomicFetchOr32 d r off, .w, fun x y => x ||| y),
      (.atomicFetchAnd32 d r off, .w, fun x y => x &&& y), (.atomicFetchXor32 d r off, .w, fun x y => x ^^^ y),
      (.atomicXchg32 d r off, .w, fun _ y => y), (.atomicFetchAdd64 d r off, .dw, fun x y => x + y),
      (.atomicFetchOr64 d r off, .dw, fun x y => x ||| y),
      (.atomicFetchAnd64 d r off, .dw, fun x y => x &&& y),
      (.atomicFetchXor64 d r off, .dw, fun x y => x ^^^ y), (.atomicXchg64 d r off, .dw, fun _ y => y)] :
        List (Instr × AccessSize × (Word → Word → Word))),
      s.Aligned (effectiveAddress base off) p.2.1 .atomic → s.Admitted (effectiveAddress base off) p.2.1 .atomic →
      s.Private (effectiveAddress base off) p.2.1 →
      ∃ (t : State) (old : Word), exec p.1 s = .next t ∧
        HoldsValue s.params.hostEndian p.2.1.bytes
          (fun i => s.readByte (byteAddr (effectiveAddress base off) i)) old ∧
        StoresAt (effectiveAddress base off) p.2.1 (p.2.2 old v) s t ∧ t.reg r = some old ∧
        KeepsRegsBut [r] s t ∧ t.pc = s.pc + 1 ∧ t.frames = s.frames ∧ KeepsPlatform s t ∧ KeepsOracle s t ∧
        KeepsHelpers s t

/-- CMPXCHG (44_atomic.md R241). Which bits of r0 the 32-bit form compares is the decision of R242 (log 21), the byte order
of data that of 20_memory.md R33 (log 2), both DESIGN CHOICE. -/
def Obligations.CompareExchangeResults : Prop :=
  ∀ (s : State) (d r : Reg) (off : BitVec 16) (base v c : Word),
    s.reg d = some base → s.reg r = some v → s.reg 0 = some c →
    ∀ p ∈ ([(.atomicCmpxchg32 d r off, .w), (.atomicCmpxchg64 d r off, .dw)] : List (Instr × AccessSize)),
      s.Aligned (effectiveAddress base off) p.2 .atomic → s.Admitted (effectiveAddress base off) p.2 .atomic →
      s.Private (effectiveAddress base off) p.2 →
      ∃ (t : State) (old : Word), exec p.1 s = .next t ∧
        HoldsValue s.params.hostEndian p.2.bytes
          (fun i => s.readByte (byteAddr (effectiveAddress base off) i)) old ∧
        (old.toNat = c.toNat % 2 ^ (8 * p.2.bytes) → StoresAt (effectiveAddress base off) p.2 v s t) ∧
        (old.toNat ≠ c.toNat % 2 ^ (8 * p.2.bytes) → KeepsMemory s t) ∧ t.reg 0 = some old ∧
        KeepsRegsBut [0] s t ∧ t.pc = s.pc + 1 ∧ t.frames = s.frames ∧ KeepsPlatform s t ∧ KeepsOracle s t ∧
        KeepsHelpers s t

/-- The old value an atomic returns is the value its write replaces, also where an oracle chooses it (20_memory.md R47,
44_atomic.md R238; log 9). The zero-extended old value and the low-half compare of the 32-bit forms are the decision of
44_atomic.md R242 (log 21), the byte order of stored data that of 20_memory.md R33 (log 2), both DESIGN CHOICE. -/
def Obligations.SharedAtomicResults : Prop :=
  ∀ (s : State) (d r : Reg) (off : BitVec 16) (base v c x : Word) (rest : List Word),
    s.reg d = some base → s.reg r = some v → s.oracle = x :: rest →
    (∀ p ∈ ([
      (.atomicAdd32 d r off, .w, fun x y => x + y), (.atomicOr32 d r off, .w, fun x y => x ||| y),
      (.atomicAnd32 d r off, .w, fun x y => x &&& y), (.atomicXor32 d r off, .w, fun x y => x ^^^ y),
      (.atomicAdd64 d r off, .dw, fun x y => x + y), (.atomicOr64 d r off, .dw, fun x y => x ||| y),
      (.atomicAnd64 d r off, .dw, fun x y => x &&& y), (.atomicXor64 d r off, .dw, fun x y => x ^^^ y)] :
        List (Instr × AccessSize × (Word → Word → Word))),
      s.Aligned (effectiveAddress base off) p.2.1 .atomic → s.Admitted (effectiveAddress base off) p.2.1 .atomic →
      s.Shared (effectiveAddress base off) p.2.1 →
      let old : Word := BitVec.ofNat 64 (x.toNat % 2 ^ (8 * p.2.1.bytes))
      ∃ t, exec p.1 s = .next t ∧ StoresAt (effectiveAddress base off) p.2.1 (p.2.2 old v) s t ∧
        KeepsRegsBut [] s t ∧ t.pc = s.pc + 1 ∧ t.frames = s.frames ∧ KeepsPlatform s t ∧ KeepsHelpers s t ∧
        t.oracle = rest ∧ t.oracleCount = s.oracleCount + 1) ∧
    (s.Writable r → ∀ p ∈ ([
      (.atomicFetchAdd32 d r off, .w, fun x y => x + y), (.atomicFetchOr32 d r off, .w, fun x y => x ||| y),
      (.atomicFetchAnd32 d r off, .w, fun x y => x &&& y), (.atomicFetchXor32 d r off, .w, fun x y => x ^^^ y),
      (.atomicXchg32 d r off, .w, fun _ y => y), (.atomicFetchAdd64 d r off, .dw, fun x y => x + y),
      (.atomicFetchOr64 d r off, .dw, fun x y => x ||| y),
      (.atomicFetchAnd64 d r off, .dw, fun x y => x &&& y),
      (.atomicFetchXor64 d r off, .dw, fun x y => x ^^^ y), (.atomicXchg64 d r off, .dw, fun _ y => y)] :
        List (Instr × AccessSize × (Word → Word → Word))),
      s.Aligned (effectiveAddress base off) p.2.1 .atomic → s.Admitted (effectiveAddress base off) p.2.1 .atomic →
      s.Shared (effectiveAddress base off) p.2.1 →
      let old : Word := BitVec.ofNat 64 (x.toNat % 2 ^ (8 * p.2.1.bytes))
      ∃ t, exec p.1 s = .next t ∧ StoresAt (effectiveAddress base off) p.2.1 (p.2.2 old v) s t ∧
        t.reg r = some old ∧ KeepsRegsBut [r] s t ∧ t.pc = s.pc + 1 ∧ t.frames = s.frames ∧ KeepsPlatform s t ∧
        KeepsHelpers s t ∧ t.oracle = rest ∧ t.oracleCount = s.oracleCount + 1) ∧
    (s.reg 0 = some c →
      ∀ p ∈ ([(.atomicCmpxchg32 d r off, .w), (.atomicCmpxchg64 d r off, .dw)] : List (Instr × AccessSize)),
      s.Aligned (effectiveAddress base off) p.2 .atomic → s.Admitted (effectiveAddress base off) p.2 .atomic →
      s.Shared (effectiveAddress base off) p.2 →
      let old : Word := BitVec.ofNat 64 (x.toNat % 2 ^ (8 * p.2.bytes))
      ∃ t, exec p.1 s = .next t ∧
        (old.toNat = c.toNat % 2 ^ (8 * p.2.bytes) → StoresAt (effectiveAddress base off) p.2 v s t) ∧
        (old.toNat ≠ c.toNat % 2 ^ (8 * p.2.bytes) → KeepsMemory s t) ∧ t.reg 0 = some old ∧
        KeepsRegsBut [0] s t ∧ t.pc = s.pc + 1 ∧ t.frames = s.frames ∧ KeepsPlatform s t ∧ KeepsHelpers s t ∧
        t.oracle = rest ∧ t.oracleCount = s.oracleCount + 1)

/-- `imm64 = (next_imm << 32) | imm` (30_encoding.md R55, 45_imm64.md R270). -/
def Obligations.LoadDoubleWordResult : Prop :=
  ∀ (s : State) (d : Reg) (imm next : Word32), s.Writable d →
    ∃ t, exec (.lddw d imm next) s = .next t ∧
      RegisterResult d ((next.setWidth 64 <<< 32) ||| imm.setWidth 64) 2 s t

/-- Platform addresses (45_imm64.md R265, R268, R269). `next_imm` is added zero-extended by the decision of R268 (log 24). -/
def Obligations.PlatformAddressResults : Prop :=
  ∀ (s : State) (d : Reg) (imm next : Word32), s.Writable d →
    ∀ p ∈ ([(.ldMapFd d imm, lookup s.params.mapByFd imm),
        (.ldMapValFd d imm next, ((lookup s.params.mapByFd imm).bind (lookup s.params.mapVal)).map
          (fun a => a + next.setWidth 64)),
        (.ldVarAddr d imm, lookup s.params.varAddr imm), (.ldCodeAddr d imm, lookup s.params.codeAddr (s.pc, imm)),
        (.ldMapIdx d imm, lookup s.params.mapByIdx imm),
        (.ldMapValIdx d imm next, ((lookup s.params.mapByIdx imm).bind (lookup s.params.mapVal)).map
          (fun a => a + next.setWidth 64))] : List (Instr × Option Word)),
      ∀ a, p.2 = some a → ∃ t, exec p.1 s = .next t ∧ RegisterResult d a 2 s t

/-- Undefined platform functions (45_imm64.md R268, 60_exceptions.md R295): that an undefined value faults with
`UnknownPlatformObject` is decision D26, a DESIGN CHOICE (log 24). -/
def Obligations.UnknownPlatformObjects : Prop :=
  ∀ (s : State) (d : Reg) (imm next : Word32), s.Writable d →
    ∀ p ∈ ([(.ldMapFd d imm, 1, lookup s.params.mapByFd imm),
        (.ldMapValFd d imm next, 2, (lookup s.params.mapByFd imm).bind (lookup s.params.mapVal)),
        (.ldVarAddr d imm, 3, lookup s.params.varAddr imm),
        (.ldCodeAddr d imm, 4, lookup s.params.codeAddr (s.pc, imm)),
        (.ldMapIdx d imm, 5, lookup s.params.mapByIdx imm),
        (.ldMapValIdx d imm next, 6, (lookup s.params.mapByIdx imm).bind (lookup s.params.mapVal))] :
        List (Instr × BitVec 4 × Option Word)),
      p.2.2 = none → exec p.1 s = .fault (.unknownPlatformObject p.2.1 imm)

/-- The packet instructions (46_legacy_packet.md R278, the decision D25 of the spec; log 14). -/
def Obligations.PacketInstructionsStop : Prop :=
  (∀ (s : State) (r : Reg) (imm : Word32), ∀ i ∈ ([.ldabsw imm, .ldabsh imm, .ldabsb imm, .ldindw r imm, .ldindh r imm,
      .ldindb r imm] : List Instr), exec i s = .fault (.illegalInstruction s.pc)) ∧
    ∀ (s : State) (x : Slot), s.result = none → s.isStart s.pc = true → s.program[s.pc]? = some x →
      x.b0 ∈ ([0x20, 0x28, 0x30, 0x40, 0x48, 0x50] : List Byte) → step s = .fault (.illegalInstruction s.pc)

/-- `FramePointerWrite` depends on the encoding alone (60_exceptions.md R289, R296), but for a helper that is itself defined
to raise it (42_jump.md R212). That r10 is read-only is PRESUMED with the spec (log 16). The shared bytes that
`helperInput` holds are those of the snapshot of log 33 (DESIGN CHOICE). -/
def Obligations.FramePointerWrites : Prop :=
  ∀ (s : State) (i : Instr),
    (s.params.r10ReadOnly = true → i.destination = some 10 → exec i s = .fault (.framePointerWrite s.pc)) ∧
    ∀ k, exec i s = .fault (.framePointerWrite k) →
      (s.params.r10ReadOnly = true ∧ i.destination = some 10 ∧ k = s.pc) ∨
      ∃ imm, ∃ p ∈ ([(.callHelper imm, .static), (.callBtf imm, .btf)] : List (Instr × HelperKind)), i = p.1 ∧
        ∃ h, s.helper p.2 imm = some h ∧ (h.run s.helperInput = .error (.framePointerWrite k) ∨
          (h.run s.helperInput = .ok .undefined ∧
            (s.helperNext p.2 imm).fails = some (.framePointerWrite k)))

/-- `UninitRegister` (10_state.md R21; 60_exceptions.md R290, R296). Which of several is named is left open (log 4). -/
def Obligations.UnwrittenReads : Prop :=
  ∀ (s : State) (i : Instr), (∀ d, i.destination = some d → s.Writable d) →
    ∀ r ∈ i.reads, s.reg r = none →
      ∃ q ∈ i.reads, s.reg q = none ∧ exec i s = .fault (.uninitRegister q)

/-- No arithmetic fault exists (40_alu.md R70, R79; 60_exceptions.md R287). -/
def Obligations.ArithmeticNeverFaultsOnValues : Prop :=
  ∀ (s : State) (i : Instr), i.opcodeClass = 4 ∨ i.opcodeClass = 7 →
    (∀ d, i.destination = some d → s.Writable d) → (∀ r ∈ i.reads, s.reg r ≠ none) → ∃ t, exec i s = .next t

/-- The fetch (42_jump.md R159; 60_exceptions.md R288, R296; 30_encoding.md R61). -/
def Obligations.FetchFaults : Prop :=
  ∀ s : State, s.result = none →
    (s.pc = s.program.length → step s = .fault (.badJumpTarget s.program.length)) ∧
    ∀ x, s.isStart s.pc = true → s.program[s.pc]? = some x →
      (∀ e, decode s.params.hostEndian s.params.strictReserved x s.program[s.pc + 1]? = .error e →
        step s = .fault (.illegalInstruction s.pc)) ∧
      ∀ i, decode s.params.hostEndian s.params.strictReserved x s.program[s.pc + 1]? = .ok i →
        i.wellFormed s.params = false → step s = .fault (.illegalInstruction s.pc)

/-- The undefined opcode bytes (30_encoding.md R62, R65). That they do not decode is the rule; the name of the refusal, and that
it is answered for these bytes only, is the model's DESIGN CHOICE (log 25: five names, tried in a fixed order, which all become
`IllegalInstruction`). -/
def Obligations.UndefinedOpcodes : Prop :=
  ∀ (e : HostEndian) (strict : Bool) (x : Slot) (y : Option Slot),
    decode e strict x y = .error .undefinedOpcode ↔ x.b0 ∈ ([
      0x00, 0x08, 0x10, 0x38, 0x58, 0x60, 0x68, 0x70, 0x78, 0x80, 0x88, 0x90, 0x98, 0xa0, 0xa8, 0xb0, 0xb8,
      0xc0, 0xc8, 0xd0, 0xd8, 0xe0, 0xe8, 0xf0, 0xf8, 0x01, 0x09, 0x11, 0x19, 0x21, 0x29, 0x31, 0x39, 0x41,
      0x49, 0x51, 0x59, 0x99, 0xa1, 0xa9, 0xb1, 0xb9, 0xc1, 0xc9, 0xd1, 0xd9, 0xe1, 0xe9, 0xf1, 0xf9, 0x02,
      0x0a, 0x12, 0x1a, 0x22, 0x2a, 0x32, 0x3a, 0x42, 0x4a, 0x52, 0x5a, 0x82, 0x8a, 0x92, 0x9a, 0xa2, 0xaa,
      0xb2, 0xba, 0xc2, 0xca, 0xd2, 0xda, 0xe2, 0xea, 0xf2, 0xfa, 0x03, 0x0b, 0x13, 0x1b, 0x23, 0x2b, 0x33,
      0x3b, 0x43, 0x4b, 0x53, 0x5b, 0x83, 0x8b, 0x93, 0x9b, 0xa3, 0xab, 0xb3, 0xbb, 0xcb, 0xd3, 0xe3, 0xeb,
      0xf3, 0xfb, 0x8c, 0xe4, 0xec, 0xf4, 0xfc, 0x0d, 0x8d, 0x9d, 0xe5, 0xed, 0xf5, 0xfd, 0x0e, 0x86, 0x8e,
      0x96, 0x9e, 0xe6, 0xee, 0xf6, 0xfe, 0x8f, 0xdf, 0xe7, 0xef, 0xf7, 0xff] : List Byte)

/-- The select patterns of different rows never overlap (30_encoding.md R61). -/
def Obligations.OpcodeRowsDoNotOverlap : Prop :=
  opcodeRows.Pairwise fun p q => ∀ f : Fields, ¬(p.selects f = true ∧ q.selects f = true)

/-- The layout of a slot (30_encoding.md R49) and of its `regs` byte (R50). -/
def Obligations.SlotLayout : Prop :=
  ∀ f : Fields,
    f.slot .little = ⟨f.opcode, f.src ++ f.dst, f.off.extractLsb' 0 8, f.off.extractLsb' 8 8,
      f.imm.extractLsb' 0 8, f.imm.extractLsb' 8 8, f.imm.extractLsb' 16 8, f.imm.extractLsb' 24 8⟩ ∧
    f.slot .big = ⟨f.opcode, f.dst ++ f.src, f.off.extractLsb' 8 8, f.off.extractLsb' 0 8,
      f.imm.extractLsb' 24 8, f.imm.extractLsb' 16 8, f.imm.extractLsb' 8 8, f.imm.extractLsb' 0 8⟩ ∧
    (∀ e, (f.slot e).fields e = f) ∧
    ∀ x : Slot, (x.fields .little).dst = (x.fields .big).src ∧ (x.fields .little).src = (x.fields .big).dst

/-- The canonical word (30_encoding.md R51). -/
def Obligations.CanonicalWord : Prop :=
  (∀ f : Fields, f.word.toNat = f.opcode.toNat + 2 ^ 8 * f.dst.toNat + 2 ^ 12 * f.src.toNat + 2 ^ 16 * f.off.toNat +
      2 ^ 32 * f.imm.toNat ∧ Fields.ofWord f.word = f) ∧
    ∀ x : Slot, (x.fields .little).word.toNat =
      ofBytesLittle [x.b0, x.b1, x.b2, x.b3, x.b4, x.b5, x.b6, x.b7]

/-- A few written words (30_encoding.md R53; the bytes are those of the examples in 40 to 46), and four undefined encodings
(R63 to R66). Which of its names the decoder refuses each of the four by (`cutOff`, `reservedField`, `undefinedSelector`,
`badRegister`) is the model's DESIGN CHOICE (log 25); the spec has one fault, `IllegalInstruction`, for all. -/
def Obligations.WorkedEncodings : Prop :=
  (∀ p ∈ ([(.little, ⟨0x07, 0x01, 0, 0, 0x44, 0x33, 0x22, 0x11⟩, .add64Imm 1 0x11223344),
      (.big, ⟨0x07, 0x10, 0, 0, 0x11, 0x22, 0x33, 0x44⟩, .add64Imm 1 0x11223344),
      (.little, ⟨0xbc, 0x21, 0x08, 0, 0, 0, 0, 0⟩, .movsx32From8 1 2),
      (.big, ⟨0xdc, 0x10, 0, 0, 0, 0, 0, 0x20⟩, .be32 1),
      (.little, ⟨0x05, 0, 0xfe, 0xff, 0, 0, 0, 0⟩, .ja 0xfffe),
      (.little, ⟨0x7e, 0x21, 0x02, 0, 0, 0, 0, 0⟩, .jsge32Reg 1 2 2),
      (.little, ⟨0x85, 0x10, 0, 0, 0x02, 0, 0, 0⟩, .callLocal 2),
      (.little, ⟨0x95, 0, 0, 0, 0, 0, 0, 0⟩, .exit),
      (.little, ⟨0x61, 0xa1, 0xf8, 0xff, 0, 0, 0, 0⟩, .ldxw 1 10 0xfff8),
      (.big, ⟨0x7b, 0xa1, 0xff, 0xf8, 0, 0, 0, 0⟩, .stxdw 10 1 0xfff8),
      (.little, ⟨0xdb, 0x1a, 0xf8, 0xff, 0xf1, 0, 0, 0⟩, .atomicCmpxchg64 10 1 0xfff8),
      (.little, ⟨0x20, 0, 0, 0, 0x0e, 0, 0, 0⟩, .ldabsw 14)] : List (HostEndian × Slot × Instr)),
      decode p.1 true p.2.1 none = .ok p.2.2) ∧
    decode .little true ⟨0x18, 0x01, 0, 0, 0x88, 0x77, 0x66, 0x55⟩ (some ⟨0, 0, 0, 0, 0x44, 0x33, 0x22, 0x11⟩) =
      .ok (.lddw 1 0x55667788 0x11223344) ∧
    decode .little true ⟨0x18, 0x01, 0, 0, 0x88, 0x77, 0x66, 0x55⟩ none = .error .cutOff ∧
    decode .little true ⟨0x15, 0x31, 0x02, 0, 0, 0, 0, 0⟩ none = .error .reservedField ∧
    decode .little true ⟨0xdb, 0x1a, 0xf8, 0xff, 0xe0, 0, 0, 0⟩ none = .error .undefinedSelector ∧
    decode .little true ⟨0x0f, 0xb1, 0, 0, 0, 0, 0, 0⟩ none = .error .badRegister

/-- Decode after encode, for all 170 instructions. -/
def Obligations.DecodeEncode : Prop :=
  ∀ (e : HostEndian) (strict : Bool) (i : Instr),
    decode e strict (encode e i).1 (encode e i).2 = .ok i ∧
    ((encode e i).2 = none → ∀ y, decode e strict (encode e i).1 y = .ok i)

/-- Encode after decode, under the strict setting (30_encoding.md R63). -/
def Obligations.EncodeDecode : Prop :=
  ∀ (e : HostEndian) (x : Slot) (y : Option Slot) (i : Instr), decode e true x y = .ok i →
    (encode e i).1 = x ∧ ((encode e i).2 = none ∨ (encode e i).2 = y)

/-- A step runs the decoded instruction (70_reset_and_hazards.md R313). -/
def Obligations.StepRunsTheDecodedInstruction : Prop :=
  ∀ (s : State) (x : Slot) (i : Instr), s.result = none → s.isStart s.pc = true → s.program[s.pc]? = some x →
    decode s.params.hostEndian s.params.strictReserved x s.program[s.pc + 1]? = .ok i →
    i.wellFormed s.params = true → step s = exec i s

/-- `withFetchWord` stands for loading an instruction (70_reset_and_hazards.md R308; the model's device, log 5). -/
def Obligations.PlacedInstructionRuns : Prop :=
  ∀ (s : State) (nbits w : Nat) (i : Instr),
    decode s.params.hostEndian s.params.strictReserved (tableSlots s.params.hostEndian nbits w).1
      (some (tableSlots s.params.hostEndian nbits w).2) = .ok i →
    i.wellFormed s.params = true →
      step (s.withFetchWord nbits w) = exec i (s.withFetchWord nbits w) ∧
      KeepsRegsBut [] s (s.withFetchWord nbits w) ∧ KeepsMemory s (s.withFetchWord nbits w) ∧
      (s.withFetchWord nbits w).pc = s.pc ∧ (s.withFetchWord nbits w).frames = s.frames

/-- The entry state at the default parameters (70_reset_and_hazards.md R307, 00_scope.md R6). The model's choices, which the
host makes in the spec: no program (`program = []`, log 5), no byte of memory listed (`mem = []`, log 6), no result
(`result = none`, log 11 and log 31), and that every register is written (log 3). -/
def Obligations.ResetState : Prop :=
  State.reset.pc = 0 ∧ State.reset.frames = [] ∧ State.reset.result = none ∧ State.reset.mem = [] ∧
    State.reset.program = [] ∧ (∀ r, (State.reset.reg r).isSome = true) ∧
    State.reset.params.hostEndian = .little ∧ State.reset.params.groups = ⟨true, true, true, true, true⟩ ∧
    State.reset.params.misaligned = .fault ∧ State.reset.params.maxCallDepth = 8 ∧
    State.reset.params.stackSize = 512 ∧ State.reset.params.r10ReadOnly = true ∧
    State.reset.params.strictReserved = true ∧
    State.reset.params.sdivOverflow = ⟨BitVec.intMin 64, 0, BitVec.intMin 32, 0⟩ ∧
    State.reset.helpers = [] ∧ State.reset.btfHelpers = [] ∧ State.reset.params.mapByFd = [] ∧
    State.reset.params.mapByIdx = [] ∧ State.reset.params.mapVal = [] ∧ State.reset.params.varAddr = [] ∧
    State.reset.params.codeAddr = []

/-- The invariant holds at reset. -/
def Obligations.ResetInvariant : Prop :=
  State.reset.Inv

/-- The invariant `State.Inv` is kept by every step, from every state that has it. -/
def Obligations.InvariantIsKept : Prop :=
  ∀ s t : State, s.Inv → step s = .next t → t.Inv

/-- Program text and parameters are fixed for the whole run (10_state.md R28, 70_reset_and_hazards.md R307, R314). -/
def Obligations.ProgramAndParametersAreFixed : Prop :=
  ∀ (i : Instr) (s t : State), exec i s = .next t → KeepsParameters s t

/-- Which registers an instruction may change (10_state.md R20; 40_alu.md R79; 44_atomic.md R241; 60_exceptions.md R289). That
r10 is kept by every instruction but call_local and exit is PRESUMED with the spec (log 16), and for helper calls, which keep
r6 to r10, so is the convention (log 10). -/
def Obligations.RegistersWrittenByAnInstruction : Prop :=
  ∀ (i : Instr) (s t : State), exec i s = .next t →
    (¬ i.callsHelper → (∀ imm, i ≠ .callLocal imm) → i ≠ .exit →
      (∀ r, i.destination ≠ some r →
        (r = 0 → ∀ d q off, i ≠ .atomicCmpxchg32 d q off ∧ i ≠ .atomicCmpxchg64 d q off) → t.reg r = s.reg r) ∧
      t.frames = s.frames) ∧
    (s.params.r10ReadOnly = true → (∀ imm, i ≠ .callLocal imm) → i ≠ .exit → t.reg 10 = s.reg 10)

/-- Memory is changed only where `MEM` admits it (20_memory.md R37, R40; 44_atomic.md R244). What `MEM` admits is a list of rules
on address, size and kind, a DESIGN CHOICE (log 7). -/
def Obligations.MemoryIsConfined : Prop :=
  ∀ (i : Instr) (s t : State) (a : Nat), exec i s = .next t → ¬ i.callsHelper → t.readByte a ≠ s.readByte a →
    (i.opcodeClass = 2 ∨ i.opcodeClass = 3) ∧
    ∃ (ea : Word) (n : AccessSize) (k : AccessKind) (j : Nat), (k = .write ∨ k = .atomic) ∧ s.Admitted ea n k ∧
      j < n.bytes ∧ a = byteAddr ea j

/-- What a region admits (20_memory.md R40, 44_atomic.md R244). That a region stands in `MEM` as one rule for each size is the
model's form (log 7). -/
def Obligations.RegionAdmission : Prop :=
  ∀ (s : State) (base size : Nat) (r w a : Bool) (ea : Word) (n : AccessSize) (k : AccessKind),
    s.params.admissions = admitRegion base size r w a →
      (s.Admitted ea n k ↔ base ≤ ea.toNat ∧ ea.toNat + n.bytes ≤ base + size ∧
        ((k = .read ∧ r = true) ∨ (k = .write ∧ w = true) ∨ (k = .atomic ∧ r = true ∧ w = true ∧ a = true)))

/-- Sequential control: where an instruction has a next state (10_state.md R23, 30_encoding.md R48). -/
def Obligations.SequentialControl : Prop :=
  ∀ (i : Instr) (s t : State), exec i s = .next t →
    (i.opcodeClass ≠ 5 ∧ i.opcodeClass ≠ 6) ∨ i.callsHelper → t.pc = s.pc + i.slots

end
end

