-- ==== Sys2Proof/Laws/State.lean ====
section
/-! SUPPORT. What each update of the state does to each field, and to the readings that depend on a field it
leaves alone. Every lemma is true by unfolding the update. -/

namespace Sys2Proof.Machine

variable (s : State)

/-! ### `putReg` -/

@[simp] theorem State.putReg_params (r : Reg) (v : Option Word) : (s.putReg r v).params = s.params := rfl
@[simp] theorem State.putReg_helpers (r : Reg) (v : Option Word) : (s.putReg r v).helpers = s.helpers := rfl
@[simp] theorem State.putReg_btfHelpers (r : Reg) (v : Option Word) : (s.putReg r v).btfHelpers = s.btfHelpers := rfl
@[simp] theorem State.putReg_program (r : Reg) (v : Option Word) : (s.putReg r v).program = s.program := rfl
@[simp] theorem State.putReg_pc (r : Reg) (v : Option Word) : (s.putReg r v).pc = s.pc := rfl
@[simp] theorem State.putReg_frames (r : Reg) (v : Option Word) : (s.putReg r v).frames = s.frames := rfl
@[simp] theorem State.putReg_mem (r : Reg) (v : Option Word) : (s.putReg r v).mem = s.mem := rfl
@[simp] theorem State.putReg_result (r : Reg) (v : Option Word) : (s.putReg r v).result = s.result := rfl
@[simp] theorem State.putReg_oracle (r : Reg) (v : Option Word) : (s.putReg r v).oracle = s.oracle := rfl
@[simp] theorem State.putReg_oracleCount (r : Reg) (v : Option Word) : (s.putReg r v).oracleCount =
    s.oracleCount := rfl
@[simp] theorem State.putReg_snapshots (r : Reg) (v : Option Word) : (s.putReg r v).snapshots = s.snapshots := rfl
@[simp] theorem State.putReg_snapshotCount (r : Reg) (v : Option Word) : (s.putReg r v).snapshotCount =
    s.snapshotCount := rfl
@[simp] theorem State.putReg_helperAnswers (r : Reg) (v : Option Word) : (s.putReg r v).helperAnswers =
    s.helperAnswers := rfl
@[simp] theorem State.putReg_helperCount (r : Reg) (v : Option Word) : (s.putReg r v).helperCount =
    s.helperCount := rfl
@[simp] theorem State.putReg_readByte (r : Reg) (v : Option Word) (a : Nat) : (s.putReg r v).readByte a = s.readByte a := rfl
@[simp] theorem State.putReg_isStart (r : Reg) (v : Option Word) (k : Nat) : (s.putReg r v).isStart k = s.isStart k := rfl
@[simp] theorem State.putReg_admits (r : Reg) (v : Option Word) (e : Word) (m : AccessSize) (k : AccessKind) :
    (s.putReg r v).admits e m k = s.admits e m k := rfl
@[simp] theorem State.putReg_misaligned (r : Reg) (v : Option Word) (e : Word) (m : AccessSize) (k : AccessKind) :
    (s.putReg r v).misaligned e m k = s.misaligned e m k := rfl
@[simp] theorem State.putReg_touchesShared (r : Reg) (v : Option Word) (e : Word) (m : AccessSize) :
    (s.putReg r v).touchesShared e m = s.touchesShared e m := rfl

/-! ### `setReg` -/

@[simp] theorem State.setReg_params (r : Reg) (v : Word) : (s.setReg r v).params = s.params := rfl
@[simp] theorem State.setReg_helpers (r : Reg) (v : Word) : (s.setReg r v).helpers = s.helpers := rfl
@[simp] theorem State.setReg_btfHelpers (r : Reg) (v : Word) : (s.setReg r v).btfHelpers = s.btfHelpers := rfl
@[simp] theorem State.setReg_program (r : Reg) (v : Word) : (s.setReg r v).program = s.program := rfl
@[simp] theorem State.setReg_pc (r : Reg) (v : Word) : (s.setReg r v).pc = s.pc := rfl
@[simp] theorem State.setReg_frames (r : Reg) (v : Word) : (s.setReg r v).frames = s.frames := rfl
@[simp] theorem State.setReg_mem (r : Reg) (v : Word) : (s.setReg r v).mem = s.mem := rfl
@[simp] theorem State.setReg_result (r : Reg) (v : Word) : (s.setReg r v).result = s.result := rfl
@[simp] theorem State.setReg_oracle (r : Reg) (v : Word) : (s.setReg r v).oracle = s.oracle := rfl
@[simp] theorem State.setReg_oracleCount (r : Reg) (v : Word) : (s.setReg r v).oracleCount = s.oracleCount := rfl
@[simp] theorem State.setReg_snapshots (r : Reg) (v : Word) : (s.setReg r v).snapshots = s.snapshots := rfl
@[simp] theorem State.setReg_snapshotCount (r : Reg) (v : Word) : (s.setReg r v).snapshotCount = s.snapshotCount := rfl
@[simp] theorem State.setReg_helperAnswers (r : Reg) (v : Word) : (s.setReg r v).helperAnswers = s.helperAnswers := rfl
@[simp] theorem State.setReg_helperCount (r : Reg) (v : Word) : (s.setReg r v).helperCount = s.helperCount := rfl
@[simp] theorem State.setReg_readByte (r : Reg) (v : Word) (a : Nat) : (s.setReg r v).readByte a = s.readByte a := rfl
@[simp] theorem State.setReg_isStart (r : Reg) (v : Word) (k : Nat) : (s.setReg r v).isStart k = s.isStart k := rfl
@[simp] theorem State.setReg_admits (r : Reg) (v : Word) (e : Word) (m : AccessSize) (k : AccessKind) :
    (s.setReg r v).admits e m k = s.admits e m k := rfl
@[simp] theorem State.setReg_misaligned (r : Reg) (v : Word) (e : Word) (m : AccessSize) (k : AccessKind) :
    (s.setReg r v).misaligned e m k = s.misaligned e m k := rfl
@[simp] theorem State.setReg_touchesShared (r : Reg) (v : Word) (e : Word) (m : AccessSize) :
    (s.setReg r v).touchesShared e m = s.touchesShared e m := rfl

/-! ### `clearReg` -/

@[simp] theorem State.clearReg_params (r : Reg) : (s.clearReg r).params = s.params := rfl
@[simp] theorem State.clearReg_helpers (r : Reg) : (s.clearReg r).helpers = s.helpers := rfl
@[simp] theorem State.clearReg_btfHelpers (r : Reg) : (s.clearReg r).btfHelpers = s.btfHelpers := rfl
@[simp] theorem State.clearReg_program (r : Reg) : (s.clearReg r).program = s.program := rfl
@[simp] theorem State.clearReg_pc (r : Reg) : (s.clearReg r).pc = s.pc := rfl
@[simp] theorem State.clearReg_frames (r : Reg) : (s.clearReg r).frames = s.frames := rfl
@[simp] theorem State.clearReg_mem (r : Reg) : (s.clearReg r).mem = s.mem := rfl
@[simp] theorem State.clearReg_result (r : Reg) : (s.clearReg r).result = s.result := rfl
@[simp] theorem State.clearReg_oracle (r : Reg) : (s.clearReg r).oracle = s.oracle := rfl
@[simp] theorem State.clearReg_oracleCount (r : Reg) : (s.clearReg r).oracleCount = s.oracleCount := rfl
@[simp] theorem State.clearReg_snapshots (r : Reg) : (s.clearReg r).snapshots = s.snapshots := rfl
@[simp] theorem State.clearReg_snapshotCount (r : Reg) : (s.clearReg r).snapshotCount = s.snapshotCount := rfl
@[simp] theorem State.clearReg_helperAnswers (r : Reg) : (s.clearReg r).helperAnswers = s.helperAnswers := rfl
@[simp] theorem State.clearReg_helperCount (r : Reg) : (s.clearReg r).helperCount = s.helperCount := rfl
@[simp] theorem State.clearReg_readByte (r : Reg) (a : Nat) : (s.clearReg r).readByte a = s.readByte a := rfl
@[simp] theorem State.clearReg_isStart (r : Reg) (k : Nat) : (s.clearReg r).isStart k = s.isStart k := rfl
@[simp] theorem State.clearReg_admits (r : Reg) (e : Word) (m : AccessSize) (k : AccessKind) :
    (s.clearReg r).admits e m k = s.admits e m k := rfl
@[simp] theorem State.clearReg_misaligned (r : Reg) (e : Word) (m : AccessSize) (k : AccessKind) :
    (s.clearReg r).misaligned e m k = s.misaligned e m k := rfl
@[simp] theorem State.clearReg_touchesShared (r : Reg) (e : Word) (m : AccessSize) :
    (s.clearReg r).touchesShared e m = s.touchesShared e m := rfl

/-! ### `advance` -/

@[simp] theorem State.advance_params (n : Nat) : (s.advance n).params = s.params := rfl
@[simp] theorem State.advance_helpers (n : Nat) : (s.advance n).helpers = s.helpers := rfl
@[simp] theorem State.advance_btfHelpers (n : Nat) : (s.advance n).btfHelpers = s.btfHelpers := rfl
@[simp] theorem State.advance_program (n : Nat) : (s.advance n).program = s.program := rfl
@[simp] theorem State.advance_regs (n : Nat) : (s.advance n).regs = s.regs := rfl
@[simp] theorem State.advance_pc (n : Nat) : (s.advance n).pc = s.pc + n := rfl
@[simp] theorem State.advance_frames (n : Nat) : (s.advance n).frames = s.frames := rfl
@[simp] theorem State.advance_mem (n : Nat) : (s.advance n).mem = s.mem := rfl
@[simp] theorem State.advance_result (n : Nat) : (s.advance n).result = s.result := rfl
@[simp] theorem State.advance_oracle (n : Nat) : (s.advance n).oracle = s.oracle := rfl
@[simp] theorem State.advance_oracleCount (n : Nat) : (s.advance n).oracleCount = s.oracleCount := rfl
@[simp] theorem State.advance_snapshots (n : Nat) : (s.advance n).snapshots = s.snapshots := rfl
@[simp] theorem State.advance_snapshotCount (n : Nat) : (s.advance n).snapshotCount = s.snapshotCount := rfl
@[simp] theorem State.advance_helperAnswers (n : Nat) : (s.advance n).helperAnswers = s.helperAnswers := rfl
@[simp] theorem State.advance_helperCount (n : Nat) : (s.advance n).helperCount = s.helperCount := rfl
@[simp] theorem State.advance_reg (n : Nat) (q : Reg) : (s.advance n).reg q = s.reg q := rfl
@[simp] theorem State.advance_readByte (n : Nat) (a : Nat) : (s.advance n).readByte a = s.readByte a := rfl
@[simp] theorem State.advance_isStart (n : Nat) (k : Nat) : (s.advance n).isStart k = s.isStart k := rfl
@[simp] theorem State.advance_admits (n : Nat) (e : Word) (m : AccessSize) (k : AccessKind) :
    (s.advance n).admits e m k = s.admits e m k := rfl
@[simp] theorem State.advance_misaligned (n : Nat) (e : Word) (m : AccessSize) (k : AccessKind) :
    (s.advance n).misaligned e m k = s.misaligned e m k := rfl
@[simp] theorem State.advance_touchesShared (n : Nat) (e : Word) (m : AccessSize) :
    (s.advance n).touchesShared e m = s.touchesShared e m := rfl

/-! ### `drawOracle` -/

@[simp] theorem State.drawOracle_params : (s.drawOracle).params = s.params := rfl
@[simp] theorem State.drawOracle_helpers : (s.drawOracle).helpers = s.helpers := rfl
@[simp] theorem State.drawOracle_btfHelpers : (s.drawOracle).btfHelpers = s.btfHelpers := rfl
@[simp] theorem State.drawOracle_program : (s.drawOracle).program = s.program := rfl
@[simp] theorem State.drawOracle_regs : (s.drawOracle).regs = s.regs := rfl
@[simp] theorem State.drawOracle_pc : (s.drawOracle).pc = s.pc := rfl
@[simp] theorem State.drawOracle_frames : (s.drawOracle).frames = s.frames := rfl
@[simp] theorem State.drawOracle_mem : (s.drawOracle).mem = s.mem := rfl
@[simp] theorem State.drawOracle_result : (s.drawOracle).result = s.result := rfl
@[simp] theorem State.drawOracle_oracle : (s.drawOracle).oracle = s.oracle.tail := rfl
@[simp] theorem State.drawOracle_oracleCount : (s.drawOracle).oracleCount = s.oracleCount + 1 := rfl
@[simp] theorem State.drawOracle_snapshots : (s.drawOracle).snapshots = s.snapshots := rfl
@[simp] theorem State.drawOracle_snapshotCount : (s.drawOracle).snapshotCount = s.snapshotCount := rfl
@[simp] theorem State.drawOracle_helperAnswers : (s.drawOracle).helperAnswers = s.helperAnswers := rfl
@[simp] theorem State.drawOracle_helperCount : (s.drawOracle).helperCount = s.helperCount := rfl
@[simp] theorem State.drawOracle_reg (q : Reg) : (s.drawOracle).reg q = s.reg q := rfl
@[simp] theorem State.drawOracle_readByte (a : Nat) : (s.drawOracle).readByte a = s.readByte a := rfl
@[simp] theorem State.drawOracle_isStart (k : Nat) : (s.drawOracle).isStart k = s.isStart k := rfl
@[simp] theorem State.drawOracle_admits (e : Word) (m : AccessSize) (k : AccessKind) :
    (s.drawOracle).admits e m k = s.admits e m k := rfl
@[simp] theorem State.drawOracle_misaligned (e : Word) (m : AccessSize) (k : AccessKind) :
    (s.drawOracle).misaligned e m k = s.misaligned e m k := rfl
@[simp] theorem State.drawOracle_touchesShared (e : Word) (m : AccessSize) :
    (s.drawOracle).touchesShared e m = s.touchesShared e m := rfl

/-! ### `drawSnapshot` -/

@[simp] theorem State.drawSnapshot_params : (s.drawSnapshot).params = s.params := rfl
@[simp] theorem State.drawSnapshot_helpers : (s.drawSnapshot).helpers = s.helpers := rfl
@[simp] theorem State.drawSnapshot_btfHelpers : (s.drawSnapshot).btfHelpers = s.btfHelpers := rfl
@[simp] theorem State.drawSnapshot_program : (s.drawSnapshot).program = s.program := rfl
@[simp] theorem State.drawSnapshot_regs : (s.drawSnapshot).regs = s.regs := rfl
@[simp] theorem State.drawSnapshot_pc : (s.drawSnapshot).pc = s.pc := rfl
@[simp] theorem State.drawSnapshot_frames : (s.drawSnapshot).frames = s.frames := rfl
@[simp] theorem State.drawSnapshot_mem : (s.drawSnapshot).mem = s.mem := rfl
@[simp] theorem State.drawSnapshot_result : (s.drawSnapshot).result = s.result := rfl
@[simp] theorem State.drawSnapshot_oracle : (s.drawSnapshot).oracle = s.oracle := rfl
@[simp] theorem State.drawSnapshot_oracleCount : (s.drawSnapshot).oracleCount = s.oracleCount := rfl
@[simp] theorem State.drawSnapshot_snapshots : (s.drawSnapshot).snapshots = s.snapshots.tail := rfl
@[simp] theorem State.drawSnapshot_snapshotCount : (s.drawSnapshot).snapshotCount = s.snapshotCount + 1 := rfl
@[simp] theorem State.drawSnapshot_helperAnswers : (s.drawSnapshot).helperAnswers = s.helperAnswers := rfl
@[simp] theorem State.drawSnapshot_helperCount : (s.drawSnapshot).helperCount = s.helperCount := rfl
@[simp] theorem State.drawSnapshot_reg (q : Reg) : (s.drawSnapshot).reg q = s.reg q := rfl
@[simp] theorem State.drawSnapshot_readByte (a : Nat) : (s.drawSnapshot).readByte a = s.readByte a := rfl
@[simp] theorem State.drawSnapshot_isStart (k : Nat) : (s.drawSnapshot).isStart k = s.isStart k := rfl
@[simp] theorem State.drawSnapshot_admits (e : Word) (m : AccessSize) (k : AccessKind) :
    (s.drawSnapshot).admits e m k = s.admits e m k := rfl
@[simp] theorem State.drawSnapshot_misaligned (e : Word) (m : AccessSize) (k : AccessKind) :
    (s.drawSnapshot).misaligned e m k = s.misaligned e m k := rfl
@[simp] theorem State.drawSnapshot_touchesShared (e : Word) (m : AccessSize) :
    (s.drawSnapshot).touchesShared e m = s.touchesShared e m := rfl

/-! ### `store` -/

@[simp] theorem State.store_params (ea : Word) (n : AccessSize) (v : Word) : (s.store ea n v).params = s.params := rfl
@[simp] theorem State.store_helpers (ea : Word) (n : AccessSize) (v : Word) : (s.store ea n v).helpers =
    s.helpers := rfl
@[simp] theorem State.store_btfHelpers (ea : Word) (n : AccessSize) (v : Word) : (s.store ea n v).btfHelpers =
    s.btfHelpers := rfl
@[simp] theorem State.store_program (ea : Word) (n : AccessSize) (v : Word) : (s.store ea n v).program =
    s.program := rfl
@[simp] theorem State.store_regs (ea : Word) (n : AccessSize) (v : Word) : (s.store ea n v).regs = s.regs := rfl
@[simp] theorem State.store_pc (ea : Word) (n : AccessSize) (v : Word) : (s.store ea n v).pc = s.pc := rfl
@[simp] theorem State.store_frames (ea : Word) (n : AccessSize) (v : Word) : (s.store ea n v).frames = s.frames := rfl
@[simp] theorem State.store_mem (ea : Word) (n : AccessSize) (v : Word) : (s.store ea n v).mem =
    writeBytes s.mem ea (toBytes s.params.hostEndian n.bytes v) := rfl
@[simp] theorem State.store_result (ea : Word) (n : AccessSize) (v : Word) : (s.store ea n v).result = s.result := rfl
@[simp] theorem State.store_oracle (ea : Word) (n : AccessSize) (v : Word) : (s.store ea n v).oracle = s.oracle := rfl
@[simp] theorem State.store_oracleCount (ea : Word) (n : AccessSize) (v : Word) : (s.store ea n v).oracleCount =
    s.oracleCount := rfl
@[simp] theorem State.store_snapshots (ea : Word) (n : AccessSize) (v : Word) : (s.store ea n v).snapshots =
    s.snapshots := rfl
@[simp] theorem State.store_snapshotCount (ea : Word) (n : AccessSize) (v : Word) : (s.store ea n v).snapshotCount =
    s.snapshotCount := rfl
@[simp] theorem State.store_helperAnswers (ea : Word) (n : AccessSize) (v : Word) : (s.store ea n v).helperAnswers =
    s.helperAnswers := rfl
@[simp] theorem State.store_helperCount (ea : Word) (n : AccessSize) (v : Word) : (s.store ea n v).helperCount =
    s.helperCount := rfl
@[simp] theorem State.store_reg (ea : Word) (n : AccessSize) (v : Word) (q : Reg) : (s.store ea n v).reg q = s.reg q := rfl
@[simp] theorem State.store_isStart (ea : Word) (n : AccessSize) (v : Word) (k : Nat) : (s.store ea n v).isStart k = s.isStart k := rfl
@[simp] theorem State.store_admits (ea : Word) (n : AccessSize) (v : Word) (e : Word) (m : AccessSize) (k : AccessKind) :
    (s.store ea n v).admits e m k = s.admits e m k := rfl
@[simp] theorem State.store_misaligned (ea : Word) (n : AccessSize) (v : Word) (e : Word) (m : AccessSize) (k : AccessKind) :
    (s.store ea n v).misaligned e m k = s.misaligned e m k := rfl
@[simp] theorem State.store_touchesShared (ea : Word) (n : AccessSize) (v : Word) (e : Word) (m : AccessSize) :
    (s.store ea n v).touchesShared e m = s.touchesShared e m := rfl

/-! ### `withMem` -/

@[simp] theorem State.withMem_params (c : List Host.Cell) : (s.withMem c).params = s.params := rfl
@[simp] theorem State.withMem_helpers (c : List Host.Cell) : (s.withMem c).helpers = s.helpers := rfl
@[simp] theorem State.withMem_btfHelpers (c : List Host.Cell) : (s.withMem c).btfHelpers = s.btfHelpers := rfl
@[simp] theorem State.withMem_program (c : List Host.Cell) : (s.withMem c).program = s.program := rfl
@[simp] theorem State.withMem_regs (c : List Host.Cell) : (s.withMem c).regs = s.regs := rfl
@[simp] theorem State.withMem_pc (c : List Host.Cell) : (s.withMem c).pc = s.pc := rfl
@[simp] theorem State.withMem_frames (c : List Host.Cell) : (s.withMem c).frames = s.frames := rfl
@[simp] theorem State.withMem_mem (c : List Host.Cell) : (s.withMem c).mem = c := rfl
@[simp] theorem State.withMem_result (c : List Host.Cell) : (s.withMem c).result = s.result := rfl
@[simp] theorem State.withMem_oracle (c : List Host.Cell) : (s.withMem c).oracle = s.oracle := rfl
@[simp] theorem State.withMem_oracleCount (c : List Host.Cell) : (s.withMem c).oracleCount = s.oracleCount := rfl
@[simp] theorem State.withMem_snapshots (c : List Host.Cell) : (s.withMem c).snapshots = s.snapshots := rfl
@[simp] theorem State.withMem_snapshotCount (c : List Host.Cell) : (s.withMem c).snapshotCount = s.snapshotCount := rfl
@[simp] theorem State.withMem_helperAnswers (c : List Host.Cell) : (s.withMem c).helperAnswers = s.helperAnswers := rfl
@[simp] theorem State.withMem_helperCount (c : List Host.Cell) : (s.withMem c).helperCount = s.helperCount := rfl
@[simp] theorem State.withMem_reg (c : List Host.Cell) (q : Reg) : (s.withMem c).reg q = s.reg q := rfl
@[simp] theorem State.withMem_readByte (c : List Host.Cell) (a : Nat) :
    (s.withMem c).readByte a = Memory.byte (c) a := by
  simp [State.readByte]
@[simp] theorem State.withMem_isStart (c : List Host.Cell) (k : Nat) : (s.withMem c).isStart k = s.isStart k := rfl
@[simp] theorem State.withMem_admits (c : List Host.Cell) (e : Word) (m : AccessSize) (k : AccessKind) :
    (s.withMem c).admits e m k = s.admits e m k := rfl
@[simp] theorem State.withMem_misaligned (c : List Host.Cell) (e : Word) (m : AccessSize) (k : AccessKind) :
    (s.withMem c).misaligned e m k = s.misaligned e m k := rfl
@[simp] theorem State.withMem_touchesShared (c : List Host.Cell) (e : Word) (m : AccessSize) :
    (s.withMem c).touchesShared e m = s.touchesShared e m := rfl

/-! ### `goTo` -/

@[simp] theorem State.goTo_params (fs : List Frame) (t : Nat) : (s.goTo fs t).params = s.params := rfl
@[simp] theorem State.goTo_helpers (fs : List Frame) (t : Nat) : (s.goTo fs t).helpers = s.helpers := rfl
@[simp] theorem State.goTo_btfHelpers (fs : List Frame) (t : Nat) : (s.goTo fs t).btfHelpers = s.btfHelpers := rfl
@[simp] theorem State.goTo_program (fs : List Frame) (t : Nat) : (s.goTo fs t).program = s.program := rfl
@[simp] theorem State.goTo_regs (fs : List Frame) (t : Nat) : (s.goTo fs t).regs = s.regs := rfl
@[simp] theorem State.goTo_pc (fs : List Frame) (t : Nat) : (s.goTo fs t).pc = t := rfl
@[simp] theorem State.goTo_frames (fs : List Frame) (t : Nat) : (s.goTo fs t).frames = fs := rfl
@[simp] theorem State.goTo_mem (fs : List Frame) (t : Nat) : (s.goTo fs t).mem = s.mem := rfl
@[simp] theorem State.goTo_result (fs : List Frame) (t : Nat) : (s.goTo fs t).result = s.result := rfl
@[simp] theorem State.goTo_oracle (fs : List Frame) (t : Nat) : (s.goTo fs t).oracle = s.oracle := rfl
@[simp] theorem State.goTo_oracleCount (fs : List Frame) (t : Nat) : (s.goTo fs t).oracleCount = s.oracleCount := rfl
@[simp] theorem State.goTo_snapshots (fs : List Frame) (t : Nat) : (s.goTo fs t).snapshots = s.snapshots := rfl
@[simp] theorem State.goTo_snapshotCount (fs : List Frame) (t : Nat) : (s.goTo fs t).snapshotCount =
    s.snapshotCount := rfl
@[simp] theorem State.goTo_helperAnswers (fs : List Frame) (t : Nat) : (s.goTo fs t).helperAnswers =
    s.helperAnswers := rfl
@[simp] theorem State.goTo_helperCount (fs : List Frame) (t : Nat) : (s.goTo fs t).helperCount = s.helperCount := rfl
@[simp] theorem State.goTo_reg (fs : List Frame) (t : Nat) (q : Reg) : (s.goTo fs t).reg q = s.reg q := rfl
@[simp] theorem State.goTo_readByte (fs : List Frame) (t : Nat) (a : Nat) : (s.goTo fs t).readByte a = s.readByte a := rfl
@[simp] theorem State.goTo_isStart (fs : List Frame) (t : Nat) (k : Nat) : (s.goTo fs t).isStart k = s.isStart k := rfl
@[simp] theorem State.goTo_admits (fs : List Frame) (t : Nat) (e : Word) (m : AccessSize) (k : AccessKind) :
    (s.goTo fs t).admits e m k = s.admits e m k := rfl
@[simp] theorem State.goTo_misaligned (fs : List Frame) (t : Nat) (e : Word) (m : AccessSize) (k : AccessKind) :
    (s.goTo fs t).misaligned e m k = s.misaligned e m k := rfl
@[simp] theorem State.goTo_touchesShared (fs : List Frame) (t : Nat) (e : Word) (m : AccessSize) :
    (s.goTo fs t).touchesShared e m = s.touchesShared e m := rfl

/-! ### `drawHelper` -/

@[simp] theorem State.drawHelper_params (hk : HelperKind) (id : Word32) : (s.drawHelper hk id).params = s.params := rfl
@[simp] theorem State.drawHelper_helpers (hk : HelperKind) (id : Word32) : (s.drawHelper hk id).helpers =
    s.helpers := rfl
@[simp] theorem State.drawHelper_btfHelpers (hk : HelperKind) (id : Word32) : (s.drawHelper hk id).btfHelpers =
    s.btfHelpers := rfl
@[simp] theorem State.drawHelper_program (hk : HelperKind) (id : Word32) : (s.drawHelper hk id).program =
    s.program := rfl
@[simp] theorem State.drawHelper_regs (hk : HelperKind) (id : Word32) : (s.drawHelper hk id).regs = s.regs := rfl
@[simp] theorem State.drawHelper_pc (hk : HelperKind) (id : Word32) : (s.drawHelper hk id).pc = s.pc := rfl
@[simp] theorem State.drawHelper_frames (hk : HelperKind) (id : Word32) : (s.drawHelper hk id).frames = s.frames := rfl
@[simp] theorem State.drawHelper_mem (hk : HelperKind) (id : Word32) : (s.drawHelper hk id).mem = s.mem := rfl
@[simp] theorem State.drawHelper_result (hk : HelperKind) (id : Word32) : (s.drawHelper hk id).result = s.result := rfl
@[simp] theorem State.drawHelper_oracle (hk : HelperKind) (id : Word32) : (s.drawHelper hk id).oracle = s.oracle := rfl
@[simp] theorem State.drawHelper_oracleCount (hk : HelperKind) (id : Word32) : (s.drawHelper hk id).oracleCount =
    s.oracleCount := rfl
@[simp] theorem State.drawHelper_snapshots (hk : HelperKind) (id : Word32) : (s.drawHelper hk id).snapshots =
    s.snapshots := rfl
@[simp] theorem State.drawHelper_snapshotCount (hk : HelperKind) (id : Word32) : (s.drawHelper hk id).snapshotCount =
    s.snapshotCount := rfl
@[simp] theorem State.drawHelper_helperAnswers (hk : HelperKind) (id : Word32) : (s.drawHelper hk id).helperAnswers =
    s.helperAnswers.eraseP fun p => decide (p.1 = (hk, id)) := rfl
@[simp] theorem State.drawHelper_helperCount (hk : HelperKind) (id : Word32) : (s.drawHelper hk id).helperCount =
    s.helperCount + 1 := rfl
@[simp] theorem State.drawHelper_reg (hk : HelperKind) (id : Word32) (q : Reg) : (s.drawHelper hk id).reg q = s.reg q := rfl
@[simp] theorem State.drawHelper_readByte (hk : HelperKind) (id : Word32) (a : Nat) : (s.drawHelper hk id).readByte a = s.readByte a := rfl
@[simp] theorem State.drawHelper_isStart (hk : HelperKind) (id : Word32) (k : Nat) : (s.drawHelper hk id).isStart k = s.isStart k := rfl
@[simp] theorem State.drawHelper_admits (hk : HelperKind) (id : Word32) (e : Word) (m : AccessSize) (k : AccessKind) :
    (s.drawHelper hk id).admits e m k = s.admits e m k := rfl
@[simp] theorem State.drawHelper_misaligned (hk : HelperKind) (id : Word32) (e : Word) (m : AccessSize) (k : AccessKind) :
    (s.drawHelper hk id).misaligned e m k = s.misaligned e m k := rfl
@[simp] theorem State.drawHelper_touchesShared (hk : HelperKind) (id : Word32) (e : Word) (m : AccessSize) :
    (s.drawHelper hk id).touchesShared e m = s.touchesShared e m := rfl

/-! ### `clearArgs` -/

@[simp] theorem State.clearArgs_params : (s.clearArgs).params = s.params := by simp [State.clearArgs]
@[simp] theorem State.clearArgs_helpers : (s.clearArgs).helpers = s.helpers := by simp [State.clearArgs]
@[simp] theorem State.clearArgs_btfHelpers : (s.clearArgs).btfHelpers = s.btfHelpers := by simp [State.clearArgs]
@[simp] theorem State.clearArgs_program : (s.clearArgs).program = s.program := by simp [State.clearArgs]
@[simp] theorem State.clearArgs_pc : (s.clearArgs).pc = s.pc := by simp [State.clearArgs]
@[simp] theorem State.clearArgs_frames : (s.clearArgs).frames = s.frames := by simp [State.clearArgs]
@[simp] theorem State.clearArgs_mem : (s.clearArgs).mem = s.mem := by simp [State.clearArgs]
@[simp] theorem State.clearArgs_result : (s.clearArgs).result = s.result := by simp [State.clearArgs]
@[simp] theorem State.clearArgs_oracle : (s.clearArgs).oracle = s.oracle := by simp [State.clearArgs]
@[simp] theorem State.clearArgs_oracleCount : (s.clearArgs).oracleCount = s.oracleCount := by simp [State.clearArgs]
@[simp] theorem State.clearArgs_snapshots : (s.clearArgs).snapshots = s.snapshots := by simp [State.clearArgs]
@[simp] theorem State.clearArgs_snapshotCount : (s.clearArgs).snapshotCount =
    s.snapshotCount := by simp [State.clearArgs]
@[simp] theorem State.clearArgs_helperAnswers : (s.clearArgs).helperAnswers =
    s.helperAnswers := by simp [State.clearArgs]
@[simp] theorem State.clearArgs_helperCount : (s.clearArgs).helperCount = s.helperCount := by simp [State.clearArgs]
@[simp] theorem State.clearArgs_readByte (a : Nat) : (s.clearArgs).readByte a = s.readByte a := by simp [State.clearArgs]
@[simp] theorem State.clearArgs_isStart (k : Nat) : (s.clearArgs).isStart k = s.isStart k := by simp [State.clearArgs]
@[simp] theorem State.clearArgs_admits (e : Word) (m : AccessSize) (k : AccessKind) :
    (s.clearArgs).admits e m k = s.admits e m k := by simp [State.clearArgs]
@[simp] theorem State.clearArgs_misaligned (e : Word) (m : AccessSize) (k : AccessKind) :
    (s.clearArgs).misaligned e m k = s.misaligned e m k := by simp [State.clearArgs]
@[simp] theorem State.clearArgs_touchesShared (e : Word) (m : AccessSize) :
    (s.clearArgs).touchesShared e m = s.touchesShared e m := by simp [State.clearArgs]

/-! ### `enterFunction` -/

@[simp] theorem State.enterFunction_params (t : Nat) : (s.enterFunction t).params =
    s.params := by simp [State.enterFunction]
@[simp] theorem State.enterFunction_helpers (t : Nat) : (s.enterFunction t).helpers =
    s.helpers := by simp [State.enterFunction]
@[simp] theorem State.enterFunction_btfHelpers (t : Nat) : (s.enterFunction t).btfHelpers =
    s.btfHelpers := by simp [State.enterFunction]
@[simp] theorem State.enterFunction_program (t : Nat) : (s.enterFunction t).program =
    s.program := by simp [State.enterFunction]
@[simp] theorem State.enterFunction_pc (t : Nat) : (s.enterFunction t).pc = t := by simp [State.enterFunction]
@[simp] theorem State.enterFunction_frames (t : Nat) : (s.enterFunction t).frames =
    s.frame :: s.frames := by simp [State.enterFunction]
@[simp] theorem State.enterFunction_mem (t : Nat) : (s.enterFunction t).mem = s.mem := by simp [State.enterFunction]
@[simp] theorem State.enterFunction_result (t : Nat) : (s.enterFunction t).result =
    s.result := by simp [State.enterFunction]
@[simp] theorem State.enterFunction_oracle (t : Nat) : (s.enterFunction t).oracle =
    s.oracle := by simp [State.enterFunction]
@[simp] theorem State.enterFunction_oracleCount (t : Nat) : (s.enterFunction t).oracleCount =
    s.oracleCount := by simp [State.enterFunction]
@[simp] theorem State.enterFunction_snapshots (t : Nat) : (s.enterFunction t).snapshots =
    s.snapshots := by simp [State.enterFunction]
@[simp] theorem State.enterFunction_snapshotCount (t : Nat) : (s.enterFunction t).snapshotCount =
    s.snapshotCount := by simp [State.enterFunction]
@[simp] theorem State.enterFunction_helperAnswers (t : Nat) : (s.enterFunction t).helperAnswers =
    s.helperAnswers := by simp [State.enterFunction]
@[simp] theorem State.enterFunction_helperCount (t : Nat) : (s.enterFunction t).helperCount =
    s.helperCount := by simp [State.enterFunction]
@[simp] theorem State.enterFunction_readByte (t : Nat) (a : Nat) : (s.enterFunction t).readByte a = s.readByte a := by simp [State.enterFunction]
@[simp] theorem State.enterFunction_isStart (t : Nat) (k : Nat) : (s.enterFunction t).isStart k = s.isStart k := by simp [State.enterFunction]
@[simp] theorem State.enterFunction_admits (t : Nat) (e : Word) (m : AccessSize) (k : AccessKind) :
    (s.enterFunction t).admits e m k = s.admits e m k := by simp [State.enterFunction]
@[simp] theorem State.enterFunction_misaligned (t : Nat) (e : Word) (m : AccessSize) (k : AccessKind) :
    (s.enterFunction t).misaligned e m k = s.misaligned e m k := by simp [State.enterFunction]
@[simp] theorem State.enterFunction_touchesShared (t : Nat) (e : Word) (m : AccessSize) :
    (s.enterFunction t).touchesShared e m = s.touchesShared e m := by simp [State.enterFunction]

/-! ### `returnTo` -/

@[simp] theorem State.returnTo_params (f : Frame) (rest : List Frame) : (s.returnTo f rest).params =
    s.params := by simp [State.returnTo]
@[simp] theorem State.returnTo_helpers (f : Frame) (rest : List Frame) : (s.returnTo f rest).helpers =
    s.helpers := by simp [State.returnTo]
@[simp] theorem State.returnTo_btfHelpers (f : Frame) (rest : List Frame) : (s.returnTo f rest).btfHelpers =
    s.btfHelpers := by simp [State.returnTo]
@[simp] theorem State.returnTo_program (f : Frame) (rest : List Frame) : (s.returnTo f rest).program =
    s.program := by simp [State.returnTo]
@[simp] theorem State.returnTo_pc (f : Frame) (rest : List Frame) : (s.returnTo f rest).pc =
    f.retPc := by simp [State.returnTo]
@[simp] theorem State.returnTo_frames (f : Frame) (rest : List Frame) : (s.returnTo f rest).frames =
    rest := by simp [State.returnTo]
@[simp] theorem State.returnTo_mem (f : Frame) (rest : List Frame) : (s.returnTo f rest).mem =
    s.mem := by simp [State.returnTo]
@[simp] theorem State.returnTo_result (f : Frame) (rest : List Frame) : (s.returnTo f rest).result =
    s.result := by simp [State.returnTo]
@[simp] theorem State.returnTo_oracle (f : Frame) (rest : List Frame) : (s.returnTo f rest).oracle =
    s.oracle := by simp [State.returnTo]
@[simp] theorem State.returnTo_oracleCount (f : Frame) (rest : List Frame) : (s.returnTo f rest).oracleCount =
    s.oracleCount := by simp [State.returnTo]
@[simp] theorem State.returnTo_snapshots (f : Frame) (rest : List Frame) : (s.returnTo f rest).snapshots =
    s.snapshots := by simp [State.returnTo]
@[simp] theorem State.returnTo_snapshotCount (f : Frame) (rest : List Frame) : (s.returnTo f rest).snapshotCount =
    s.snapshotCount := by simp [State.returnTo]
@[simp] theorem State.returnTo_helperAnswers (f : Frame) (rest : List Frame) : (s.returnTo f rest).helperAnswers =
    s.helperAnswers := by simp [State.returnTo]
@[simp] theorem State.returnTo_helperCount (f : Frame) (rest : List Frame) : (s.returnTo f rest).helperCount =
    s.helperCount := by simp [State.returnTo]
@[simp] theorem State.returnTo_readByte (f : Frame) (rest : List Frame) (a : Nat) : (s.returnTo f rest).readByte a = s.readByte a := by simp [State.returnTo]
@[simp] theorem State.returnTo_isStart (f : Frame) (rest : List Frame) (k : Nat) : (s.returnTo f rest).isStart k = s.isStart k := by simp [State.returnTo]
@[simp] theorem State.returnTo_admits (f : Frame) (rest : List Frame) (e : Word) (m : AccessSize) (k : AccessKind) :
    (s.returnTo f rest).admits e m k = s.admits e m k := by simp [State.returnTo]
@[simp] theorem State.returnTo_misaligned (f : Frame) (rest : List Frame) (e : Word) (m : AccessSize) (k : AccessKind) :
    (s.returnTo f rest).misaligned e m k = s.misaligned e m k := by simp [State.returnTo]
@[simp] theorem State.returnTo_touchesShared (f : Frame) (rest : List Frame) (e : Word) (m : AccessSize) :
    (s.returnTo f rest).touchesShared e m = s.touchesShared e m := by simp [State.returnTo]

/-! ### `helperReturn` -/

@[simp] theorem State.helperReturn_params (v : Word) (ws : List (Word × Byte)) : (s.helperReturn v ws).params =
    s.params := by simp [State.helperReturn]
@[simp] theorem State.helperReturn_helpers (v : Word) (ws : List (Word × Byte)) : (s.helperReturn v ws).helpers =
    s.helpers := by simp [State.helperReturn]
@[simp] theorem State.helperReturn_btfHelpers (v : Word) (ws : List (Word × Byte)) : (s.helperReturn v ws).btfHelpers =
    s.btfHelpers := by simp [State.helperReturn]
@[simp] theorem State.helperReturn_program (v : Word) (ws : List (Word × Byte)) : (s.helperReturn v ws).program =
    s.program := by simp [State.helperReturn]
@[simp] theorem State.helperReturn_pc (v : Word) (ws : List (Word × Byte)) : (s.helperReturn v ws).pc =
    s.pc + 1 := by simp [State.helperReturn]
@[simp] theorem State.helperReturn_frames (v : Word) (ws : List (Word × Byte)) : (s.helperReturn v ws).frames =
    s.frames := by simp [State.helperReturn]
@[simp] theorem State.helperReturn_mem (v : Word) (ws : List (Word × Byte)) : (s.helperReturn v ws).mem =
    writeCells s.mem ws := by simp [State.helperReturn]
@[simp] theorem State.helperReturn_result (v : Word) (ws : List (Word × Byte)) : (s.helperReturn v ws).result =
    s.result := by simp [State.helperReturn]
@[simp] theorem State.helperReturn_oracle (v : Word) (ws : List (Word × Byte)) : (s.helperReturn v ws).oracle =
    s.oracle := by simp [State.helperReturn]
@[simp] theorem State.helperReturn_oracleCount (v : Word) (ws : List (Word × Byte)) : (s.helperReturn v ws).oracleCount =
    s.oracleCount := by simp [State.helperReturn]
@[simp] theorem State.helperReturn_snapshots (v : Word) (ws : List (Word × Byte)) : (s.helperReturn v ws).snapshots =
    s.snapshots := by simp [State.helperReturn]
@[simp] theorem State.helperReturn_snapshotCount (v : Word) (ws : List (Word × Byte)) : (s.helperReturn v ws).snapshotCount =
    s.snapshotCount := by simp [State.helperReturn]
@[simp] theorem State.helperReturn_helperAnswers (v : Word) (ws : List (Word × Byte)) : (s.helperReturn v ws).helperAnswers =
    s.helperAnswers := by simp [State.helperReturn]
@[simp] theorem State.helperReturn_helperCount (v : Word) (ws : List (Word × Byte)) : (s.helperReturn v ws).helperCount =
    s.helperCount := by simp [State.helperReturn]
@[simp] theorem State.helperReturn_readByte (v : Word) (ws : List (Word × Byte)) (a : Nat) :
    (s.helperReturn v ws).readByte a = Memory.byte (writeCells s.mem ws) a := by
  simp [State.readByte]
@[simp] theorem State.helperReturn_isStart (v : Word) (ws : List (Word × Byte)) (k : Nat) : (s.helperReturn v ws).isStart k = s.isStart k := by simp [State.helperReturn]
@[simp] theorem State.helperReturn_admits (v : Word) (ws : List (Word × Byte)) (e : Word) (m : AccessSize) (k : AccessKind) :
    (s.helperReturn v ws).admits e m k = s.admits e m k := by simp [State.helperReturn]
@[simp] theorem State.helperReturn_misaligned (v : Word) (ws : List (Word × Byte)) (e : Word) (m : AccessSize) (k : AccessKind) :
    (s.helperReturn v ws).misaligned e m k = s.misaligned e m k := by simp [State.helperReturn]
@[simp] theorem State.helperReturn_touchesShared (v : Word) (ws : List (Word × Byte)) (e : Word) (m : AccessSize) :
    (s.helperReturn v ws).touchesShared e m = s.touchesShared e m := by simp [State.helperReturn]

/-! ### `withFetchWord` -/

@[simp] theorem State.withFetchWord_params (b w : Nat) : (s.withFetchWord b w).params = s.params := rfl
@[simp] theorem State.withFetchWord_helpers (b w : Nat) : (s.withFetchWord b w).helpers = s.helpers := rfl
@[simp] theorem State.withFetchWord_btfHelpers (b w : Nat) : (s.withFetchWord b w).btfHelpers = s.btfHelpers := rfl
@[simp] theorem State.withFetchWord_program (b w : Nat) : (s.withFetchWord b w).program =
    placeSlots s.program s.pc (tableSlots s.params.hostEndian b w) := rfl
@[simp] theorem State.withFetchWord_regs (b w : Nat) : (s.withFetchWord b w).regs = s.regs := rfl
@[simp] theorem State.withFetchWord_pc (b w : Nat) : (s.withFetchWord b w).pc = s.pc := rfl
@[simp] theorem State.withFetchWord_frames (b w : Nat) : (s.withFetchWord b w).frames = s.frames := rfl
@[simp] theorem State.withFetchWord_mem (b w : Nat) : (s.withFetchWord b w).mem = s.mem := rfl
@[simp] theorem State.withFetchWord_result (b w : Nat) : (s.withFetchWord b w).result = none := rfl
@[simp] theorem State.withFetchWord_oracle (b w : Nat) : (s.withFetchWord b w).oracle = s.oracle := rfl
@[simp] theorem State.withFetchWord_oracleCount (b w : Nat) : (s.withFetchWord b w).oracleCount = s.oracleCount := rfl
@[simp] theorem State.withFetchWord_snapshots (b w : Nat) : (s.withFetchWord b w).snapshots = s.snapshots := rfl
@[simp] theorem State.withFetchWord_snapshotCount (b w : Nat) : (s.withFetchWord b w).snapshotCount = s.snapshotCount := rfl
@[simp] theorem State.withFetchWord_helperAnswers (b w : Nat) : (s.withFetchWord b w).helperAnswers = s.helperAnswers := rfl
@[simp] theorem State.withFetchWord_helperCount (b w : Nat) : (s.withFetchWord b w).helperCount = s.helperCount := rfl

/-! ### `afterLoad` draws an oracle value or does nothing -/

@[simp] theorem State.afterLoad_params (ea : Word) (n : AccessSize) : (s.afterLoad ea n).params = s.params := by
  unfold State.afterLoad; split <;> rfl
@[simp] theorem State.afterLoad_helpers (ea : Word) (n : AccessSize) : (s.afterLoad ea n).helpers = s.helpers := by
  unfold State.afterLoad; split <;> rfl
@[simp] theorem State.afterLoad_btfHelpers (ea : Word) (n : AccessSize) : (s.afterLoad ea n).btfHelpers = s.btfHelpers := by
  unfold State.afterLoad; split <;> rfl
@[simp] theorem State.afterLoad_program (ea : Word) (n : AccessSize) : (s.afterLoad ea n).program = s.program := by
  unfold State.afterLoad; split <;> rfl
@[simp] theorem State.afterLoad_regs (ea : Word) (n : AccessSize) : (s.afterLoad ea n).regs = s.regs := by
  unfold State.afterLoad; split <;> rfl
@[simp] theorem State.afterLoad_pc (ea : Word) (n : AccessSize) : (s.afterLoad ea n).pc = s.pc := by
  unfold State.afterLoad; split <;> rfl
@[simp] theorem State.afterLoad_frames (ea : Word) (n : AccessSize) : (s.afterLoad ea n).frames = s.frames := by
  unfold State.afterLoad; split <;> rfl
@[simp] theorem State.afterLoad_mem (ea : Word) (n : AccessSize) : (s.afterLoad ea n).mem = s.mem := by
  unfold State.afterLoad; split <;> rfl
@[simp] theorem State.afterLoad_result (ea : Word) (n : AccessSize) : (s.afterLoad ea n).result = s.result := by
  unfold State.afterLoad; split <;> rfl
@[simp] theorem State.afterLoad_snapshots (ea : Word) (n : AccessSize) : (s.afterLoad ea n).snapshots = s.snapshots := by
  unfold State.afterLoad; split <;> rfl
@[simp] theorem State.afterLoad_snapshotCount (ea : Word) (n : AccessSize) : (s.afterLoad ea n).snapshotCount = s.snapshotCount := by
  unfold State.afterLoad; split <;> rfl
@[simp] theorem State.afterLoad_helperAnswers (ea : Word) (n : AccessSize) : (s.afterLoad ea n).helperAnswers = s.helperAnswers := by
  unfold State.afterLoad; split <;> rfl
@[simp] theorem State.afterLoad_helperCount (ea : Word) (n : AccessSize) : (s.afterLoad ea n).helperCount = s.helperCount := by
  unfold State.afterLoad; split <;> rfl
@[simp] theorem State.afterLoad_reg (ea : Word) (n : AccessSize) (q : Reg) : (s.afterLoad ea n).reg q = s.reg q := by
  unfold State.afterLoad; split <;> rfl
@[simp] theorem State.afterLoad_readByte (ea : Word) (n : AccessSize) (a : Nat) :
    (s.afterLoad ea n).readByte a = s.readByte a := by
  unfold State.afterLoad; split <;> rfl

/-! ### What a helper call reads of the inputs -/

/-- What an undefined helper answers does not depend on what shared regions hold. -/
@[simp] theorem State.drawSnapshot_helperNext (k : HelperKind) (id : Word32) :
    s.drawSnapshot.helperNext k id = s.helperNext k id := rfl
@[simp] theorem State.drawSnapshot_drawHelper_mem (k : HelperKind) (id : Word32) :
    (s.drawSnapshot.drawHelper k id).mem = s.mem := rfl
@[simp] theorem State.helperInput_byte : s.helperInput.byte = s.helperByte := rfl
@[simp] theorem State.helperInput_hostEndian : s.helperInput.hostEndian = s.params.hostEndian := rfl
@[simp] theorem State.helperInput_args (i : Fin 5) : s.helperInput.args.get i = s.reg (argReg i) := by
  fin_cases i <;> rfl

/-! ### The reset state and the outcome of an instruction -/

@[simp] theorem State.reset_pc : State.reset.pc = 0 := rfl
@[simp] theorem State.reset_frames : State.reset.frames = [] := rfl
@[simp] theorem State.reset_mem : State.reset.mem = [] := rfl
@[simp] theorem State.reset_program : State.reset.program = [] := rfl
@[simp] theorem State.reset_helpers : State.reset.helpers = [] := rfl
@[simp] theorem State.reset_btfHelpers : State.reset.btfHelpers = [] := rfl
@[simp] theorem State.reset_result : State.reset.result = none := rfl
@[simp] theorem State.reset_params : State.reset.params = defaultParams := rfl

@[simp] theorem commit_ok (s : State) : commit (.ok s) = .next s := rfl
@[simp] theorem commit_error (f : Fault) : commit (.error f) = .fault f := rfl

/-- An instruction has a next state exactly where its computation succeeds with it. -/
theorem commit_eq_next (e : Except Fault State) (t : State) : commit e = .next t ↔ e = .ok t := by
  cases e <;> simp [commit]

/-- An instruction faults exactly where its computation fails. -/
theorem commit_eq_fault (e : Except Fault State) (f : Fault) : commit e = .fault f ↔ e = .error f := by
  cases e <;> simp [commit]

/-- An instruction is never refused. -/
theorem commit_ne_refused (e : Except Fault State) (r : Refusal) : commit e ≠ .refused r := by
  cases e <;> simp [commit]

end Sys2Proof.Machine
end

