-- ==== Sys2Proof/Laws/Memory.lean ====
section
/-! SUPPORT. Data memory: reading after a write, the canonical form, bytes and values. -/

namespace Sys2Proof.Machine

/-! ## The list of bytes -/

/-- Reading after a write: the byte written, any other byte as before. -/
theorem Memory.get_set (m : List Host.Cell) (a : Nat) (b : Byte) (c : Nat) :
    Memory.get (Memory.set m a b) c = if c = a then some b else Memory.get m c := by
  induction m with
  | nil => simp [Memory.set, Memory.get]
  | cons x m ih =>
    obtain ⟨k, v⟩ := x
    unfold Memory.set
    split
    · simp [Memory.get]
    · split
      · subst_vars
        simp only [Memory.get]
        split <;> rfl
      · simp only [Memory.get, ih]
        split
        · subst_vars; rw [if_neg (by omega)]
        · rfl

theorem Memory.wfFrom_mono {m : List Host.Cell} {lo lo' : Nat} (h : lo ≤ lo') (hw : Memory.wfFrom lo' m = true) :
    Memory.wfFrom lo m = true := by
  cases m with
  | nil => rfl
  | cons x m => simp [Memory.wfFrom] at hw ⊢; exact ⟨⟨by omega, hw.1.2⟩, hw.2⟩

theorem Memory.wfFrom_set (m : List Host.Cell) (a lo : Nat) (b : Byte) (ha : a < 2 ^ 64) (hlo : lo ≤ a)
    (h : Memory.wfFrom lo m = true) : Memory.wfFrom lo (Memory.set m a b) = true := by
  induction m generalizing lo with
  | nil => simp [Memory.set, Memory.wfFrom, hlo]; omega
  | cons x m ih =>
    obtain ⟨k, v⟩ := x
    simp only [Memory.wfFrom, Bool.and_eq_true, decide_eq_true_eq] at h
    unfold Memory.set
    split
    · simp only [Memory.wfFrom, Bool.and_eq_true, decide_eq_true_eq]
      exact ⟨⟨hlo, ha⟩, ⟨by omega, h.1.2⟩, h.2⟩
    · split
      · subst_vars
        simp only [Memory.wfFrom, Bool.and_eq_true, decide_eq_true_eq]
        exact ⟨h.1, h.2⟩
      · simp only [Memory.wfFrom, Bool.and_eq_true, decide_eq_true_eq]
        exact ⟨h.1, ih (k + 1) (by omega) h.2⟩

/-- Writing a byte keeps the canonical form. -/
theorem Memory.wf_set (m : List Host.Cell) (a : Nat) (b : Byte) (ha : a < 2 ^ 64) (h : Memory.wf m = true) :
    Memory.wf (Memory.set m a b) = true := Memory.wfFrom_set m a 0 b ha (Nat.zero_le a) h

/-- Storing bytes keeps the canonical form. -/
theorem wf_writeBytes (bs : List Byte) (m : List Host.Cell) (ea : Word) (h : Memory.wf m = true) :
    Memory.wf (writeBytes m ea bs) = true := by
  induction bs generalizing m ea with
  | nil => exact h
  | cons b bs ih => exact ih _ _ (Memory.wf_set m _ b ea.isLt h)

/-- What a helper writes keeps the canonical form. -/
theorem wf_writeCells (ws : List (Word × Byte)) (m : List Host.Cell) (h : Memory.wf m = true) :
    Memory.wf (writeCells m ws) = true := by
  induction ws generalizing m with
  | nil => exact h
  | cons w ws ih => exact ih _ (Memory.wf_set m _ w.2 w.1.isLt h)

/-- A byte whose address is not in the list is as before. -/
theorem get_writeCells_of_ne (ws : List (Word × Byte)) (m : List Host.Cell) (a : Nat) (h : ∀ w ∈ ws, w.1.toNat ≠ a) :
    Memory.get (writeCells m ws) a = Memory.get m a := by
  induction ws generalizing m with
  | nil => rfl
  | cons w ws ih =>
    rw [writeCells, ih _ fun v hv => h v (List.mem_cons_of_mem _ hv), Memory.get_set,
      if_neg fun e => h w List.mem_cons_self e.symm]

/-- The last write to an address counts. -/
theorem get_writeCells_last (before after : List (Word × Byte)) (m : List Host.Cell) (w : Word × Byte)
    (h : ∀ v ∈ after, v.1 ≠ w.1) : Memory.get (writeCells m (before ++ w :: after)) w.1.toNat = some w.2 := by
  induction before generalizing m with
  | nil =>
    rw [List.nil_append, writeCells,
      get_writeCells_of_ne _ _ _ fun v hv e => h v hv (BitVec.eq_of_toNat_eq e), Memory.get_set, if_pos rfl]
  | cons _ _ ih => exact ih _

/-- The memory of the reset state has the canonical form. -/
theorem wf_reset : Memory.wf State.reset.mem = true := rfl

theorem Memory.get_of_wfFrom {m : List Host.Cell} {lo a : Nat} (h : Memory.wfFrom lo m = true) (ha : a < lo) :
    Memory.get m a = none := by
  induction m generalizing lo with
  | nil => rfl
  | cons x m ih =>
    obtain ⟨k, v⟩ := x
    simp only [Memory.wfFrom, Bool.and_eq_true, decide_eq_true_eq] at h
    rw [Memory.get, if_neg (by omega), ih h.2 (by omega)]

/-- Memories in canonical form that read the same at every address are the same data. -/
theorem Memory.eq_of_get {m m' : List Host.Cell} {lo : Nat} (h : Memory.wfFrom lo m = true)
    (h' : Memory.wfFrom lo m' = true) (hg : ∀ a, Memory.get m a = Memory.get m' a) : m = m' := by
  induction m generalizing lo m' with
  | nil =>
    cases m' with
    | nil => rfl
    | cons x m' => have := hg x.1; simp [Memory.get] at this
  | cons x m ih =>
    obtain ⟨k, v⟩ := x
    cases m' with
    | nil => have := hg k; simp [Memory.get] at this
    | cons y m' =>
      obtain ⟨k', v'⟩ := y
      simp only [Memory.wfFrom, Bool.and_eq_true, decide_eq_true_eq] at h h'
      have hk : k = k' := by
        rcases Nat.lt_trichotomy k k' with hlt | he | hlt
        · have := hg k
          rw [Memory.get, if_pos rfl, Memory.get, if_neg (by omega), Memory.get_of_wfFrom h'.2 (by omega)] at this
          cases this
        · exact he
        · have := hg k'
          rw [Memory.get, if_neg (by omega), Memory.get_of_wfFrom h.2 (by omega), Memory.get, if_pos rfl] at this
          cases this
      subst hk
      have hv : v = v' := by have := hg k; simpa [Memory.get] using this
      subst hv
      rw [ih h.2 h'.2 fun a => ?_]
      have := hg a
      simp only [Memory.get] at this
      by_cases ha : a = k
      · rw [ha, Memory.get_of_wfFrom h.2 (by omega), Memory.get_of_wfFrom h'.2 (by omega)]
      · simpa [ha] using this

/-! ## Byte addresses of an access -/

theorem byteAddr_zero (ea : Word) : byteAddr ea 0 = ea.toNat := by simp [byteAddr]

theorem byteAddr_succ (ea : Word) (i : Nat) : byteAddr ea (i + 1) = byteAddr (ea + 1) i := by
  unfold byteAddr
  congr 1
  apply BitVec.eq_of_toNat_eq
  simp [BitVec.toNat_add]
  omega

/-- The bytes of an access have different addresses. -/
theorem byteAddr_inj (ea : Word) {i j : Nat} (hi : i < 2 ^ 64) (hj : j < 2 ^ 64)
    (h : byteAddr ea i = byteAddr ea j) : i = j := by
  unfold byteAddr at h
  simp only [BitVec.toNat_add, BitVec.toNat_ofNat] at h
  have := ea.isLt
  omega

/-- A byte outside the bytes written is as before. -/
theorem get_writeBytes_of_ne (bs : List Byte) (m : List Host.Cell) (ea : Word) (a : Nat)
    (h : ∀ i < bs.length, a ≠ byteAddr ea i) : Memory.get (writeBytes m ea bs) a = Memory.get m a := by
  induction bs generalizing m ea with
  | nil => rfl
  | cons b bs ih =>
    have h0 := h 0 (by simp)
    rw [byteAddr_zero] at h0
    rw [writeBytes, ih, Memory.get_set, if_neg h0]
    intro i hi
    rw [← byteAddr_succ]
    exact h (i + 1) (by simpa using hi)

/-- A byte written holds what was written. -/
theorem get_writeBytes_at (bs : List Byte) (m : List Host.Cell) (ea : Word) (i : Nat) (hi : i < bs.length)
    (hl : bs.length ≤ 2 ^ 64) : Memory.get (writeBytes m ea bs) (byteAddr ea i) = some bs[i] := by
  induction bs generalizing m ea i with
  | nil => simp at hi
  | cons b bs ih =>
    cases i with
    | zero =>
      rw [writeBytes, get_writeBytes_of_ne, Memory.get_set, byteAddr_zero]
      · simp
      · intro j hj
        rw [← byteAddr_succ]
        intro he
        have := byteAddr_inj ea (by simp) (by simp at hl; omega) he
        omega
    | succ i =>
      rw [writeBytes, byteAddr_succ, ih _ _ i (by simpa using hi) (by simp at hl; omega)]
      simp

/-! ## Bytes and values -/

@[simp] theorem toBytesLittle_length (n v : Nat) : (toBytesLittle n v).length = n := by
  induction n generalizing v with
  | zero => rfl
  | succ n ih => simp [toBytesLittle, ih]

@[simp] theorem toBytes_length (e : HostEndian) (n : Nat) (v : Word) : (toBytes e n v).length = n := by
  cases e <;> simp [toBytes]

theorem toBytesLittle_getElem (n v i : Nat) (h : i < (toBytesLittle n v).length) :
    (toBytesLittle n v)[i] = BitVec.ofNat 8 (v / 256 ^ i) := by
  induction n generalizing v i with
  | zero => simp at h
  | succ n ih =>
    cases i with
    | zero => simp [toBytesLittle]
    | succ i =>
      simp only [toBytesLittle, List.getElem_cons_succ]
      rw [ih, Nat.div_div_eq_div_mul, Nat.pow_succ, Nat.mul_comm]

theorem ofBytesLittle_lt (bs : List Byte) : ofBytesLittle bs < 256 ^ bs.length := by
  induction bs with
  | nil => simp [ofBytesLittle]
  | cons b bs ih =>
    have := b.isLt
    simp only [ofBytesLittle, List.length_cons, Nat.pow_succ]
    omega

theorem ofBytesLittle_getElem (bs : List Byte) (i : Nat) (h : i < bs.length) :
    ofBytesLittle bs / 256 ^ i % 256 = bs[i].toNat := by
  induction bs generalizing i with
  | nil => simp at h
  | cons b bs ih =>
    have hb := b.isLt
    cases i with
    | zero => simp [ofBytesLittle]; omega
    | succ i =>
      rw [Nat.pow_succ, Nat.mul_comm, ← Nat.div_div_eq_div_mul]
      have : ofBytesLittle (b :: bs) / 256 = ofBytesLittle bs := by
        simp only [ofBytesLittle]; omega
      rw [this, ih i (by simpa using h)]
      simp

/-- Bytes to a value and back: the value modulo its size. -/
theorem ofBytesLittle_toBytesLittle (n v : Nat) : ofBytesLittle (toBytesLittle n v) = v % 256 ^ n := by
  induction n generalizing v with
  | zero => simp [toBytesLittle, ofBytesLittle, Nat.mod_one]
  | succ n ih =>
    simp only [toBytesLittle, ofBytesLittle, ih, BitVec.toNat_ofNat]
    have h : 256 ^ (n + 1) = 256 * 256 ^ n := by rw [Nat.pow_succ, Nat.mul_comm]
    rw [h, Nat.mod_mul]

/-- Loading what was stored gives the low bytes back, in either byte order. -/
theorem ofBytes_toBytes (e : HostEndian) (n : Nat) (v : Word) :
    ofBytes e (toBytes e n v) = BitVec.ofNat 64 (v.toNat % 256 ^ n) := by
  cases e <;> simp [ofBytes, toBytes, ofBytesLittle_toBytesLittle]

/-! ## Stores -/

/-- Storing keeps the canonical form. -/
theorem State.wf_store (s : State) (ea : Word) (n : AccessSize) (v : Word) (h : Memory.wf s.mem = true) :
    Memory.wf (s.store ea n v).mem = true := by
  rw [State.store_mem]; exact wf_writeBytes _ _ _ h

/-- A byte outside the bytes stored reads as before. -/
theorem State.readByte_store_of_ne (s : State) (ea : Word) (n : AccessSize) (v : Word) (a : Nat)
    (h : ∀ i < n.bytes, a ≠ byteAddr ea i) : (s.store ea n v).readByte a = s.readByte a := by
  simp only [State.readByte, Memory.byte, State.store_mem]
  rw [get_writeBytes_of_ne]
  simpa using h

/-- A byte stored reads as the byte of the value in host byte order. -/
theorem State.readByte_store_at (s : State) (ea : Word) (n : AccessSize) (v : Word) (i : Nat) (h : i < n.bytes) :
    (s.store ea n v).readByte (byteAddr ea i) =
      (toBytes s.params.hostEndian n.bytes v)[i]'(by simpa using h) := by
  simp only [State.readByte, Memory.byte, State.store_mem]
  rw [get_writeBytes_at _ _ _ i (by simpa using h) (by rw [toBytes_length]; cases n <;> simp [AccessSize.bytes])]
  rfl

end Sys2Proof.Machine
end

