-- ==== Sys2Proof/Laws/Registers.lean ====
section
/-! SUPPORT. Reading a register after each update of the registers. -/

namespace Sys2Proof.Machine

variable (s : State)

/-- Reading after a write: the value at the register written, any other register as before. -/
theorem State.reg_putReg (r q : Reg) (v : Option Word) :
    (s.putReg r v).reg q = if q = r then v else s.reg q := by
  simp only [State.putReg, State.reg, Vector.get_eq_getElem, Vector.getElem_set, Fin.ext_iff, eq_comm (a := r.val)]

theorem State.reg_setReg (r q : Reg) (v : Word) :
    (s.setReg r v).reg q = if q = r then some v else s.reg q := s.reg_putReg r q (some v)

theorem State.reg_clearReg (r q : Reg) :
    (s.clearReg r).reg q = if q = r then none else s.reg q := s.reg_putReg r q none

@[simp] theorem State.reg_setReg_same (r : Reg) (v : Word) : (s.setReg r v).reg r = some v := by
  simp [State.reg_setReg]

/-- The argument registers become unwritten, the others stay (42_jump.md R211, R216). -/
theorem State.reg_clearArgs (q : Reg) :
    s.clearArgs.reg q = if 1 ≤ q.val ∧ q.val ≤ 5 then none else s.reg q := by
  simp only [State.clearArgs, State.reg_clearReg]
  fin_cases q <;> simp

/-- The registers at the start of a program-local function (42_jump.md R214). -/
theorem State.reg_enterFunction (t : Nat) (q : Reg) :
    (s.enterFunction t).reg q =
      if q = 10 then (s.reg 10).map (fun v => v - s.params.stackSize)
      else if 1 ≤ q.val ∧ q.val ≤ 5 then s.reg q else none := by
  simp only [State.enterFunction, State.goTo_reg, State.reg_clearReg, State.reg_putReg]
  fin_cases q <;> simp

/-- The registers after a return from a program-local function (42_jump.md R216). -/
theorem State.reg_returnTo (f : Frame) (rest : List Frame) (q : Reg) :
    (s.returnTo f rest).reg q =
      if q = 0 then s.reg 0
      else if q.val ≤ 5 then none
      else if q = 6 then f.r6 else if q = 7 then f.r7 else if q = 8 then f.r8 else if q = 9 then f.r9
      else f.r10 := by
  simp only [State.returnTo, State.goTo_reg, State.reg_putReg, State.reg_clearArgs]
  fin_cases q <;> simp

/-- The registers after a helper call (42_jump.md R211). -/
theorem State.reg_helperReturn (v : Word) (ws : List (Word × Byte)) (q : Reg) :
    (s.helperReturn v ws).reg q = if q = 0 then some v else if q.val ≤ 5 then none else s.reg q := by
  simp only [State.helperReturn, State.advance_reg, State.reg_setReg, State.reg_clearArgs, State.withMem_reg]
  fin_cases q <;> simp

end Sys2Proof.Machine
end

