-- ==== Sys2Proof/Laws/Ops.lean ====
section
/-! SUPPORT. What each shared operation can do, said once: when it succeeds, and with which state. -/

namespace Sys2Proof.Machine

variable (s t : State)

/-- A sequence of checks succeeds exactly where its parts do. -/
theorem bind_eq_ok {α β : Type} (x : Except Fault α) (f : α → Except Fault β) (b : β) :
    (x >>= f) = .ok b ↔ ∃ a, x = .ok a ∧ f a = .ok b := by
  cases x <;> simp [bind, Except.bind]

theorem return_eq_ok {α : Type} (a b : α) : (return a : Except Fault α) = .ok b ↔ b = a := by
  simp [pure, Except.pure, eq_comm]

/-! ## Checks -/

/-- A destination is allowed unless it is r10 and r10 is read-only. -/
theorem State.checkDest_eq_ok (r : Reg) (u : Unit) :
    s.checkDest r = .ok u ↔ (r = 10 → s.params.r10ReadOnly = false) := by
  unfold State.checkDest
  by_cases h : r = 10 <;> cases h' : s.params.r10ReadOnly <;> simp [h]

theorem State.readReg_eq_ok (r : Reg) (v : Word) : s.readReg r = .ok v ↔ s.reg r = some v := by
  unfold State.readReg; cases s.reg r <;> simp

theorem State.checkAccess_eq_ok (ea : Word) (n : AccessSize) (k : AccessKind) (u : Unit) :
    s.checkAccess ea n k = .ok u ↔ s.misaligned ea n k = false ∧ s.admits ea n k = true := by
  unfold State.checkAccess
  cases s.misaligned ea n k <;> cases s.admits ea n k <;> simp

theorem State.checkTarget_eq_ok (t : Int) (k : Nat) :
    s.checkTarget t = .ok k ↔ 0 ≤ t ∧ s.isStart t.toNat = true ∧ k = t.toNat := by
  unfold State.checkTarget
  by_cases h : 0 ≤ t <;> cases h' : s.isStart t.toNat <;> simp [h, eq_comm]

theorem State.checkTarget_eq_error (t : Int) (f : Fault) :
    s.checkTarget t = .error f ↔ ¬(0 ≤ t ∧ s.isStart t.toNat = true) ∧ f = .badJumpTarget t := by
  unfold State.checkTarget
  by_cases h : 0 ≤ t <;> cases h' : s.isStart t.toNat <;> simp [h, eq_comm]

/-! ## Control transfer -/

theorem State.jump_eq_ok (delta : Int) :
    s.jump delta = .ok t ↔ 0 ≤ s.jumpTarget delta ∧ s.isStart (s.jumpTarget delta).toNat = true ∧
      t = { s with pc := (s.jumpTarget delta).toNat } := by
  unfold State.jump
  cases h : s.checkTarget (s.jumpTarget delta) with
  | ok k => rw [s.checkTarget_eq_ok] at h; simp [h, eq_comm]
  | error f => rw [s.checkTarget_eq_error] at h; simp only [reduceCtorEq, false_iff]; tauto

theorem branch_eq_ok (taken : Bool) (off : BitVec 16) :
    branch taken off s = .ok t ↔
      (taken = true ∧ s.jump off.toInt = .ok t) ∨ (taken = false ∧ t = s.advance 1) := by
  cases taken <;> simp [branch, eq_comm]

theorem jump64Imm_eq_ok (c : Word → Word → Bool) (d : Reg) (imm : Word32) (off : BitVec 16) :
    jump64Imm c d imm off s = .ok t ↔
      ∃ a, s.reg d = some a ∧ branch (c a (immOperand64 imm)) off s = .ok t := by
  simp [jump64Imm, bind_eq_ok, State.readReg_eq_ok]

theorem jump64Reg_eq_ok (c : Word → Word → Bool) (d r : Reg) (off : BitVec 16) :
    jump64Reg c d r off s = .ok t ↔
      ∃ a, s.reg d = some a ∧ ∃ b, s.reg r = some b ∧ branch (c a b) off s = .ok t := by
  simp [jump64Reg, bind_eq_ok, State.readReg_eq_ok]

theorem jump32Imm_eq_ok (c : Word32 → Word32 → Bool) (d : Reg) (imm : Word32) (off : BitVec 16) :
    jump32Imm c d imm off s = .ok t ↔ ∃ a, s.reg d = some a ∧ branch (c (low32 a) imm) off s = .ok t := by
  simp [jump32Imm, bind_eq_ok, State.readReg_eq_ok]

theorem jump32Reg_eq_ok (c : Word32 → Word32 → Bool) (d r : Reg) (off : BitVec 16) :
    jump32Reg c d r off s = .ok t ↔
      ∃ a, s.reg d = some a ∧ ∃ b, s.reg r = some b ∧ branch (c (low32 a) (low32 b)) off s = .ok t := by
  simp [jump32Reg, bind_eq_ok, State.readReg_eq_ok]

/-- A program-local call: the depth allows it, the target is valid, and the callee starts (42_jump.md R214). -/
theorem State.callLocal_eq_ok (delta : Int) :
    s.callLocal delta = .ok t ↔ s.frames.length < s.params.maxCallDepth ∧ 0 ≤ s.jumpTarget delta ∧
      s.isStart (s.jumpTarget delta).toNat = true ∧ t = s.enterFunction (s.jumpTarget delta).toNat := by
  unfold State.callLocal
  split
  · simp only [reduceCtorEq, false_iff]; omega
  · cases h : s.checkTarget (s.jumpTarget delta) with
    | ok k => rw [s.checkTarget_eq_ok] at h; simp [h, eq_comm]; omega
    | error f => rw [s.checkTarget_eq_error] at h; simp only [reduceCtorEq, false_iff]; tauto

/-- `exit`: r0 is written, and either the run ends or control returns to the caller (42_jump.md R216). -/
theorem State.leaveFunction_eq_ok :
    s.leaveFunction = .ok t ↔ ∃ v, s.reg 0 = some v ∧
      ((s.frames = [] ∧ t = { s with result := some v }) ∨
        ∃ f rest, s.frames = f :: rest ∧ t = s.returnTo f rest) := by
  unfold State.leaveFunction State.readReg
  cases s.reg 0 with
  | none => simp
  | some v => cases s.frames <;> simp [eq_comm]

/-- No argument that a helper uses is unwritten exactly where none is found. -/
theorem State.unwrittenArg_eq_none (is : List (Fin 5)) :
    s.unwrittenArg is = none ↔ ∀ i ∈ is, (s.reg (argReg i)).isSome = true := by
  induction is with
  | nil => simp [State.unwrittenArg]
  | cons i is ih => cases h : s.reg (argReg i) <;> simp [State.unwrittenArg, h, ih]

/-- A sequence of checks fails where its first part does, or where that succeeds and the rest fails. -/
theorem bind_eq_error {α β : Type} (x : Except Fault α) (f : α → Except Fault β) (g : Fault) :
    (x >>= f) = .error g ↔ x = .error g ∨ ∃ a, x = .ok a ∧ f a = .error g := by
  cases x <;> simp [bind, Except.bind]

theorem return_ne_error {α : Type} (a : α) (g : Fault) : (return a : Except Fault α) ≠ .error g := by
  simp [pure, Except.pure]

theorem State.readReg_eq_error (r : Reg) (g : Fault) :
    s.readReg r = .error g ↔ s.reg r = none ∧ g = .uninitRegister r := by
  unfold State.readReg; cases s.reg r <;> simp [eq_comm]

/-- What an expression of a helper definition can fail with: an unwritten argument that it uses (42_jump.md R211). -/
theorem HelperExpr.eval_eq_error (x : HelperInput) (e : HelperExpr) (f : Fault) (h : e.eval x = .error f) :
    ∃ i ∈ e.args, x.args.get i = none ∧ f = .uninitRegister (argReg i) := by
  induction e with
  | const v => cases h
  | arg i =>
    cases hi : x.args.get i <;> simp only [HelperExpr.eval, hi, reduceCtorEq, Except.error.injEq] at h
    exact ⟨i, by simp [HelperExpr.args], hi, h.symm⟩
  | load n a ih =>
    simp only [HelperExpr.eval, bind_eq_error, return_ne_error, and_false, exists_false, or_false] at h
    exact ih h
  | op o a b iha ihb =>
    simp only [HelperExpr.eval, bind_eq_error, return_ne_error, and_false, exists_false, or_false] at h
    obtain h | ⟨v, _, h⟩ := h
    · obtain ⟨i, hi, h⟩ := iha h
      exact ⟨i, List.mem_append_left _ hi, h⟩
    · obtain ⟨i, hi, h⟩ := ihb h
      exact ⟨i, List.mem_append_right _ hi, h⟩

/-- An expression of a helper definition has a value exactly where every argument that it uses is written
(42_jump.md R211). -/
theorem HelperExpr.eval_isOk (x : HelperInput) (e : HelperExpr) :
    (∃ v, e.eval x = .ok v) ↔ ∀ i ∈ e.args, x.args.get i ≠ none := by
  induction e with
  | const v => simp [HelperExpr.eval, HelperExpr.args]
  | arg i => cases h : x.args.get i <;> simp [HelperExpr.eval, HelperExpr.args, h]
  | load n a ih =>
    simp only [HelperExpr.eval, HelperExpr.args, ← ih, bind_eq_ok, return_eq_ok]
    exact ⟨fun ⟨_, v, hv, _⟩ => ⟨v, hv⟩, fun ⟨v, hv⟩ => ⟨_, v, hv, rfl⟩⟩
  | op o a b iha ihb =>
    simp only [HelperExpr.eval, HelperExpr.args, List.mem_append, or_imp, forall_and, ← iha, ← ihb, bind_eq_ok,
      return_eq_ok]
    exact ⟨fun ⟨_, v, hv, w, hw, _⟩ => ⟨⟨v, hv⟩, w, hw⟩, fun ⟨⟨v, hv⟩, w, hw⟩ => ⟨_, v, hv, w, hw, rfl⟩⟩

/-- The call of an undefined helper: it uses no unwritten argument, raises no fault, and returns
(42_jump.md R211; log 10). -/
theorem State.callUndefined_eq_ok (k : HelperKind) (id : Word32) :
    s.callUndefined k id = .ok t ↔ s.unwrittenArg (s.helperNext k id).uses = none ∧
      (s.helperNext k id).fails = none ∧
      t = (s.drawHelper k id).helperReturn (s.helperNext k id).result (s.helperNext k id).writes := by
  unfold State.callUndefined
  cases h : s.unwrittenArg (s.helperNext k id).uses <;> cases h' : (s.helperNext k id).fails <;>
    simp [h, h', eq_comm]

/-- A helper call: the helper is known, and either its definition gives a result and a new memory, or its effect is
oracle input (42_jump.md R211, R212). -/
theorem State.callHelper_eq_ok (k : HelperKind) (id : Word32) :
    s.callHelper k id = .ok t ↔ ∃ h, s.helper k id = some h ∧
      ((∃ v ws, h.run s.helperInput = .ok (.done v ws) ∧ t = s.drawSnapshot.helperReturn v ws) ∨
        (h.run s.helperInput = .ok .undefined ∧ s.drawSnapshot.callUndefined k id = .ok t)) := by
  unfold State.callHelper
  cases s.helper k id with
  | none => simp
  | some h =>
    rcases hr : h.run s.helperInput with f | o
    · simp [hr]
    · cases o <;> simp [hr, eq_comm]

/-- A helper call fails with the fault of an unknown identifier, with one that the definition raises, or with one of an
undefined effect (42_jump.md R211, R212; 60_exceptions.md R294). -/
theorem State.callHelper_eq_error (k : HelperKind) (id : Word32) (f : Fault) :
    s.callHelper k id = .error f ↔
      (s.helper k id = none ∧ f = .unknownHelper (helperSrcReg k) id) ∨
      ∃ h, s.helper k id = some h ∧ (h.run s.helperInput = .error f ∨
        (h.run s.helperInput = .ok .undefined ∧ s.drawSnapshot.callUndefined k id = .error f)) := by
  unfold State.callHelper
  cases s.helper k id with
  | none => simp [eq_comm]
  | some h =>
    rcases hr : h.run s.helperInput with g | o
    · simp [hr]
    · cases o <;> simp [hr]

/-- However a helper call goes on, it returns with a result and some bytes written (42_jump.md R211). -/
theorem State.callHelper_next (k : HelperKind) (id : Word32) (h : s.callHelper k id = .ok t) :
    ∃ (v : Word) (ws : List (Word × Byte)),
      t = s.drawSnapshot.helperReturn v ws ∨ t = (s.drawSnapshot.drawHelper k id).helperReturn v ws := by
  obtain ⟨b, _, ⟨v, ws, _, ht⟩ | ⟨_, ho⟩⟩ := (s.callHelper_eq_ok t k id).1 h
  · exact ⟨v, ws, .inl ht⟩
  · exact ⟨_, _, .inr ((s.drawSnapshot.callUndefined_eq_ok t k id).1 ho).2.2⟩

/-! ## Arithmetic -/

theorem alu64Imm_eq_ok (f : Word → Word → Word) (d : Reg) (imm : Word32) :
    alu64Imm f d imm s = .ok t ↔ (d = 10 → s.params.r10ReadOnly = false) ∧
      ∃ a, s.reg d = some a ∧ t = (s.setReg d (f a (immOperand64 imm))).advance 1 := by
  simp only [alu64Imm, bind_eq_ok, State.readReg_eq_ok, State.checkDest_eq_ok, return_eq_ok, exists_const]

theorem alu64Reg_eq_ok (f : Word → Word → Word) (d r : Reg) :
    alu64Reg f d r s = .ok t ↔ (d = 10 → s.params.r10ReadOnly = false) ∧
      ∃ a, s.reg d = some a ∧ ∃ b, s.reg r = some b ∧ t = (s.setReg d (f a b)).advance 1 := by
  simp only [alu64Reg, bind_eq_ok, State.readReg_eq_ok, State.checkDest_eq_ok, return_eq_ok, exists_const]

theorem alu32Imm_eq_ok (f : Word32 → Word32 → Word32) (d : Reg) (imm : Word32) :
    alu32Imm f d imm s = .ok t ↔ (d = 10 → s.params.r10ReadOnly = false) ∧
      ∃ a, s.reg d = some a ∧ t = (s.setReg d (zext32 (f (low32 a) imm))).advance 1 := by
  simp only [alu32Imm, bind_eq_ok, State.readReg_eq_ok, State.checkDest_eq_ok, return_eq_ok, exists_const]

theorem alu32Reg_eq_ok (f : Word32 → Word32 → Word32) (d r : Reg) :
    alu32Reg f d r s = .ok t ↔ (d = 10 → s.params.r10ReadOnly = false) ∧
      ∃ a, s.reg d = some a ∧ ∃ b, s.reg r = some b ∧
        t = (s.setReg d (zext32 (f (low32 a) (low32 b)))).advance 1 := by
  simp only [alu32Reg, bind_eq_ok, State.readReg_eq_ok, State.checkDest_eq_ok, return_eq_ok, exists_const]

theorem unary_eq_ok (f : Word → Word) (d : Reg) :
    unary f d s = .ok t ↔ (d = 10 → s.params.r10ReadOnly = false) ∧
      ∃ a, s.reg d = some a ∧ t = (s.setReg d (f a)).advance 1 := by
  simp only [unary, bind_eq_ok, State.readReg_eq_ok, State.checkDest_eq_ok, return_eq_ok, exists_const]

theorem moveValue_eq_ok (v : Word) (d : Reg) :
    moveValue v d s = .ok t ↔ (d = 10 → s.params.r10ReadOnly = false) ∧ t = (s.setReg d v).advance 1 := by
  simp only [moveValue, bind_eq_ok, State.checkDest_eq_ok, return_eq_ok, exists_const]

theorem moveReg_eq_ok (f : Word → Word) (d r : Reg) :
    moveReg f d r s = .ok t ↔ (d = 10 → s.params.r10ReadOnly = false) ∧
      ∃ b, s.reg r = some b ∧ t = (s.setReg d (f b)).advance 1 := by
  simp only [moveReg, bind_eq_ok, State.readReg_eq_ok, State.checkDest_eq_ok, return_eq_ok, exists_const]

/-! ## Loads, stores, atomics -/

theorem loadInto_eq_ok (n : AccessSize) (ext : Word → Word) (d r : Reg) (off : BitVec 16) :
    loadInto n ext d r off s = .ok t ↔ (d = 10 → s.params.r10ReadOnly = false) ∧
      ∃ base, s.reg r = some base ∧
        (s.misaligned (effectiveAddress base off) n .read = false ∧
          s.admits (effectiveAddress base off) n .read = true) ∧
        t = ((s.afterLoad (effectiveAddress base off) n).setReg d
          (ext (s.load (effectiveAddress base off) n))).advance 1 := by
  simp only [loadInto, bind_eq_ok, State.readReg_eq_ok, State.checkDest_eq_ok, State.checkAccess_eq_ok,
    return_eq_ok, exists_const]

theorem storeImm_eq_ok (n : AccessSize) (d : Reg) (off : BitVec 16) (imm : Word32) :
    storeImm n d off imm s = .ok t ↔
      ∃ base, s.reg d = some base ∧
        (s.misaligned (effectiveAddress base off) n .write = false ∧
          s.admits (effectiveAddress base off) n .write = true) ∧
        t = (s.store (effectiveAddress base off) n (immOperand64 imm)).advance 1 := by
  simp only [storeImm, bind_eq_ok, State.readReg_eq_ok, State.checkAccess_eq_ok, return_eq_ok, exists_const]

theorem storeReg_eq_ok (n : AccessSize) (d r : Reg) (off : BitVec 16) :
    storeReg n d r off s = .ok t ↔
      ∃ base, s.reg d = some base ∧ ∃ v, s.reg r = some v ∧
        (s.misaligned (effectiveAddress base off) n .write = false ∧
          s.admits (effectiveAddress base off) n .write = true) ∧
        t = (s.store (effectiveAddress base off) n v).advance 1 := by
  simp only [storeReg, bind_eq_ok, State.readReg_eq_ok, State.checkAccess_eq_ok, return_eq_ok, exists_const]

theorem atomicModify_eq_ok (n : AccessSize) (f : Word → Word → Word) (d r : Reg) (off : BitVec 16) :
    atomicModify n f d r off s = .ok t ↔
      ∃ base, s.reg d = some base ∧ ∃ v, s.reg r = some v ∧
        (s.misaligned (effectiveAddress base off) n .atomic = false ∧
          s.admits (effectiveAddress base off) n .atomic = true) ∧
        t = ((s.afterLoad (effectiveAddress base off) n).store (effectiveAddress base off) n
          (f (s.load (effectiveAddress base off) n) (lowBytes n.bytes v))).advance 1 := by
  simp only [atomicModify, bind_eq_ok, State.readReg_eq_ok, State.checkAccess_eq_ok, return_eq_ok, exists_const]

theorem atomicFetch_eq_ok (n : AccessSize) (f : Word → Word → Word) (d r : Reg) (off : BitVec 16) :
    atomicFetch n f d r off s = .ok t ↔ (r = 10 → s.params.r10ReadOnly = false) ∧
      ∃ base, s.reg d = some base ∧ ∃ v, s.reg r = some v ∧
        (s.misaligned (effectiveAddress base off) n .atomic = false ∧
          s.admits (effectiveAddress base off) n .atomic = true) ∧
        t = (((s.afterLoad (effectiveAddress base off) n).store (effectiveAddress base off) n
          (f (s.load (effectiveAddress base off) n) (lowBytes n.bytes v))).setReg r
            (s.load (effectiveAddress base off) n)).advance 1 := by
  simp only [atomicFetch, bind_eq_ok, State.readReg_eq_ok, State.checkDest_eq_ok, State.checkAccess_eq_ok,
    return_eq_ok, exists_const]

theorem atomicCompareExchange_eq_ok (n : AccessSize) (d r : Reg) (off : BitVec 16) :
    atomicCompareExchange n d r off s = .ok t ↔
      ∃ base, s.reg d = some base ∧ ∃ v, s.reg r = some v ∧ ∃ c, s.reg 0 = some c ∧
        (s.misaligned (effectiveAddress base off) n .atomic = false ∧
          s.admits (effectiveAddress base off) n .atomic = true) ∧
        t = ((if s.load (effectiveAddress base off) n = lowBytes n.bytes c then
            (s.afterLoad (effectiveAddress base off) n).store (effectiveAddress base off) n (lowBytes n.bytes v)
          else s.afterLoad (effectiveAddress base off) n).setReg 0
            (s.load (effectiveAddress base off) n)).advance 1 := by
  simp only [atomicCompareExchange, bind_eq_ok, State.readReg_eq_ok, State.checkAccess_eq_ok, return_eq_ok, exists_const]

/-! ## 64-bit immediates -/

theorem wideValue_eq_ok (v : Word) (d : Reg) :
    wideValue v d s = .ok t ↔ (d = 10 → s.params.r10ReadOnly = false) ∧ t = (s.setReg d v).advance 2 := by
  simp only [wideValue, bind_eq_ok, State.checkDest_eq_ok, return_eq_ok, exists_const]

theorem wideLookup_eq_ok (k : BitVec 4) (imm : Word32) (v : Option Word) (d : Reg) :
    wideLookup k imm v d s = .ok t ↔ (d = 10 → s.params.r10ReadOnly = false) ∧
      ∃ a, v = some a ∧ t = (s.setReg d a).advance 2 := by
  cases v <;> simp only [wideLookup, bind_eq_ok, State.checkDest_eq_ok, return_eq_ok, exists_const] <;> simp

end Sys2Proof.Machine
end

