-- ==== Sys2Proof/Laws/Access.lean ====
section
/-! SUPPORT. What the two checks of a memory access, a read and a store can do, in the terms of Safety. -/

namespace Sys2Proof.Machine

variable (s : State)

/-! ## The checks -/

theorem State.misaligned_eq_false (ea : Word) (n : AccessSize) (k : AccessKind) :
    s.misaligned ea n k = false ↔ s.Aligned ea n k := by
  unfold State.misaligned State.Aligned
  cases k <;> cases s.params.misaligned <;> by_cases h : ea.toNat % n.bytes = 0 <;> simp [h]

theorem State.admits_eq_true (ea : Word) (n : AccessSize) (k : AccessKind) :
    s.admits ea n k = true ↔ s.Admitted ea n k := by
  simp only [State.admits, List.all_eq_true, State.admitsKind, List.any_eq_true, Bool.and_eq_true, decide_eq_true_eq,
    beq_iff_eq, State.Admitted, and_assoc]

/-- An access of 1, 2, 4 or 8 bytes that lies in a region is admitted by the region's rules, and no other is
(20_memory.md R40). -/
theorem mem_admitRegion (base size : Nat) (r w a : Bool) (x : Admission) :
    x ∈ admitRegion base size r w a ↔ (x.size = 1 ∨ x.size = 2 ∨ x.size = 4 ∨ x.size = 8) ∧ x.size ≤ size ∧
      x = ⟨base, base + size - x.size, x.size, r, w, a⟩ := by
  simp only [admitRegion, List.mem_map, List.mem_filter, List.mem_cons, List.not_mem_nil, or_false, decide_eq_true_eq]
  constructor
  · rintro ⟨n, ⟨h, hn⟩, rfl⟩
    exact ⟨h, hn, rfl⟩
  · rintro ⟨h, hn, hx⟩
    exact ⟨x.size, ⟨h, hn⟩, hx.symm⟩

/-- A byte of a private access is not shared. -/
theorem State.sharedByte_of_private (ea : Word) (n : AccessSize) (i : Nat) (hi : i < n.bytes) (h : s.Private ea n) :
    s.sharedByte (byteAddr ea i) = false := by
  simp only [State.sharedByte, List.any_eq_false, regionContains, Bool.and_eq_true, decide_eq_true_eq]
  exact h i hi

/-- A byte of a shared access is shared. -/
theorem State.sharedByte_of_shared (ea : Word) (n : AccessSize) (i : Nat) (hi : i < n.bytes) (h : s.Shared ea n) :
    s.sharedByte (byteAddr ea i) = true := by
  simp only [State.sharedByte, List.any_eq_true, regionContains, Bool.and_eq_true, decide_eq_true_eq]
  exact h i hi

/-- A read of private memory leaves the state as it is. -/
theorem State.afterLoad_of_private (ea : Word) (n : AccessSize) (h : s.Private ea n) : s.afterLoad ea n = s := by
  have : s.touchesShared ea n = false := by
    simp only [State.touchesShared, List.any_eq_false, List.mem_range]
    intro i hi
    simp [s.sharedByte_of_private ea n i hi h]
  simp [State.afterLoad, this]

/-- A read of shared memory draws one value. -/
theorem State.afterLoad_of_shared (ea : Word) (n : AccessSize) (h : s.Shared ea n) :
    s.afterLoad ea n = s.drawOracle := by
  have : s.touchesShared ea n = true := by
    simp only [State.touchesShared, List.any_eq_true, List.mem_range]
    exact ⟨0, by cases n <;> decide, s.sharedByte_of_shared _ _ _ (by cases n <;> decide) h⟩
  simp [State.afterLoad, this]

/-! ## Values and bytes -/

theorem ofBytesLittle_lt_word (bs : List Byte) (h : bs.length ≤ 8) : ofBytesLittle bs < 2 ^ 64 :=
  Nat.lt_of_lt_of_le (ofBytesLittle_lt bs) (Nat.pow_le_pow_right (by decide) h : 256 ^ bs.length ≤ 256 ^ 8)

theorem two_pow_mul_eight (k : Nat) : 2 ^ (8 * k) = 256 ^ k := by rw [Nat.pow_mul]

/-- The number of some bytes, least significant first: its size and its bytes. -/
theorem ofBytesLittle_bytes (bs : List Byte) (h8 : bs.length ≤ 8) :
    (BitVec.ofNat 64 (ofBytesLittle bs)).toNat < 2 ^ (8 * bs.length) ∧
      ∀ (i : Nat) (h : i < bs.length), (BitVec.ofNat 64 (ofBytesLittle bs)).extractLsb' (8 * i) 8 = bs[i] := by
  have hm : ofBytesLittle bs % 2 ^ 64 = ofBytesLittle bs := Nat.mod_eq_of_lt (ofBytesLittle_lt_word bs h8)
  refine ⟨?_, fun i hi => ?_⟩
  · rw [BitVec.toNat_ofNat, hm, two_pow_mul_eight]
    exact ofBytesLittle_lt bs
  · apply BitVec.eq_of_toNat_eq
    rw [BitVec.extractLsb'_toNat, BitVec.toNat_ofNat, hm, Nat.shiftRight_eq_div_pow, two_pow_mul_eight,
      ← ofBytesLittle_getElem bs i hi]

/-- `ofBytes` gives the number that the bytes hold in host byte order (20_memory.md R33). -/
theorem holdsValue_ofBytes (e : HostEndian) (bs : List Byte) (h8 : bs.length ≤ 8) (byteAt : Nat → Byte)
    (hb : ∀ (i : Nat) (h : i < bs.length), bs[i] = byteAt i) : HoldsValue e bs.length byteAt (ofBytes e bs) := by
  cases e with
  | little =>
    obtain ⟨h1, h2⟩ := ofBytesLittle_bytes bs h8
    exact ⟨h1, fun i hi => by rw [← hb i hi]; exact (h2 i hi).symm⟩
  | big =>
    obtain ⟨h1, h2⟩ := ofBytesLittle_bytes bs.reverse (by simpa using h8)
    refine ⟨by simpa [ofBytes] using h1, fun i hi => ?_⟩
    have h3 := h2 (bs.length - 1 - i) (by simp; omega)
    rw [← hb i hi]
    refine Eq.trans ?_ h3.symm
    rw [List.getElem_reverse]
    congr 1
    omega

/-- The bytes that a store writes are those of the value in host byte order (20_memory.md R33). -/
theorem toBytes_getElem (e : HostEndian) (n : Nat) (v : Word) (i : Nat) (h : i < (toBytes e n v).length) :
    (toBytes e n v)[i] = v.extractLsb' (8 * bytePlace e n i) 8 := by
  apply BitVec.eq_of_toNat_eq
  have hi : i < n := by simpa using h
  cases e
  · simp [toBytes, bytePlace, toBytesLittle_getElem, BitVec.extractLsb'_toNat, Nat.shiftRight_eq_div_pow,
      two_pow_mul_eight]
  · simp [toBytes, bytePlace, List.getElem_reverse, toBytesLittle_getElem, BitVec.extractLsb'_toNat,
      Nat.shiftRight_eq_div_pow, two_pow_mul_eight]

theorem bytePlace_lt (e : HostEndian) (n i : Nat) (h : i < n) : bytePlace e n i < n := by
  cases e <;> simp [bytePlace] <;> omega

/-- The bytes below the cut are those of the value. -/
theorem lowBytes_extract (n : AccessSize) (v : Word) (i : Nat) (h : i < n.bytes) :
    (lowBytes n.bytes v).extractLsb' (8 * i) 8 = v.extractLsb' (8 * i) 8 := by
  apply BitVec.eq_of_toNat_eq
  apply Nat.eq_of_testBit_eq
  intro j
  have hn : n.bytes ≤ 8 := by cases n <;> decide
  simp only [lowBytes, BitVec.extractLsb'_toNat, BitVec.toNat_ofNat, Nat.testBit_mod_two_pow, Nat.testBit_shiftRight]
  by_cases hj : j < 8
  · have h1 : 8 * i + j < 8 * n.bytes := by omega
    have h2 : 8 * i + j < 64 := by omega
    simp [hj, h1, h2]
  · simp [hj]

/-! ## Reads and stores -/

/-- A read of private memory gives the number that its bytes hold (20_memory.md R36). -/
theorem State.load_of_private (ea : Word) (n : AccessSize) (h : s.Private ea n) :
    HoldsValue s.params.hostEndian n.bytes (fun i => s.readByte (byteAddr ea i)) (s.load ea n) := by
  have hl : (s.loadBytes ea n).length = n.bytes := by simp [State.loadBytes]
  have := holdsValue_ofBytes s.params.hostEndian (s.loadBytes ea n) (by rw [hl]; cases n <;> decide)
    (fun i => s.readByte (byteAddr ea i))
    (fun i hi => by simp [State.loadBytes, s.sharedByte_of_private ea n i (hl ▸ hi) h])
  rwa [hl] at this

/-- A read of shared memory gives the low bytes of the next oracle value (20_memory.md R47). -/
theorem State.load_of_shared (ea : Word) (n : AccessSize) (h : s.Shared ea n) :
    s.load ea n = BitVec.ofNat 64 (s.oracleNext.toNat % 2 ^ (8 * n.bytes)) := by
  have : s.loadBytes ea n = toBytes s.params.hostEndian n.bytes s.oracleNext := by
    apply List.ext_getElem
    · simp [State.loadBytes]
    · intro i h1 h2
      simp [State.loadBytes] at h1 ⊢
      simp [s.sharedByte_of_shared ea n i h1 h, h1]
  rw [State.load, this, ofBytes_toBytes, two_pow_mul_eight]

/-- A helper is given private bytes as the program left them (70_reset_and_hazards.md R314). -/
theorem State.helperByte_of_private (ea : Word) (n : AccessSize) (i : Nat) (hi : i < n.bytes) (h : s.Private ea n) :
    s.helperByte (byteAddr ea i) = s.readByte (byteAddr ea i) := by
  simp [State.helperByte, s.sharedByte_of_private ea n i hi h]

/-- A helper is given shared bytes as other agents left them (70_reset_and_hazards.md R314). -/
theorem State.helperByte_of_shared (ea : Word) (n : AccessSize) (i : Nat) (hi : i < n.bytes) (h : s.Shared ea n) :
    s.helperByte (byteAddr ea i) = s.snapshotByte (byteAddr ea i) := by
  simp [State.helperByte, s.sharedByte_of_shared ea n i hi h]

/-- A store of `w` stores `v` where the low bytes of the two agree (20_memory.md R37). -/
theorem State.storesAt_store (ea : Word) (n : AccessSize) (v w : Word)
    (h : ∀ i < n.bytes, w.extractLsb' (8 * i) 8 = v.extractLsb' (8 * i) 8) : StoresAt ea n v s (s.store ea n w) := by
  refine ⟨fun i hi => ?_, fun a ha => s.readByte_store_of_ne _ _ _ _ ha⟩
  rw [s.readByte_store_at _ _ _ _ hi, toBytes_getElem, h _ (bytePlace_lt _ _ _ hi)]

end Sys2Proof.Machine
end

