-- ==== Sys2Proof/Laws/Decode.lean ====
section
/-! SUPPORT. Slots, fields, canonical words and register fields: each conversion undoes the other. -/

namespace Sys2Proof

/-- A register field that holds a register's number names that register. -/
@[simp] theorem regOf_regBits (r : Reg) : regOf (regBits r) = some r := by
  revert r; decide

/-- A register field that names a register holds its number. -/
theorem regBits_of_regOf (b : BitVec 4) (r : Reg) (h : regOf b = some r) : regBits r = b := by
  revert b r; decide

theorem nibbles_high (a b : BitVec 4) : BitVec.extractLsb' 4 4 (a ++ b : BitVec 8) = a := by
  revert a b; decide

theorem nibbles_low (a b : BitVec 4) : BitVec.extractLsb' 0 4 (a ++ b : BitVec 8) = b := by
  revert a b; decide

theorem nibbles_append (a : BitVec 8) : BitVec.extractLsb' 4 4 a ++ BitVec.extractLsb' 0 4 a = a := by
  revert a; decide

theorem off_bytes_append (i : BitVec 16) : i.extractLsb' 8 8 ++ i.extractLsb' 0 8 = i := by
  ext j hj
  simp
  grind

theorem imm_bytes_append (i : BitVec 32) :
    i.extractLsb' 24 8 ++ i.extractLsb' 16 8 ++ i.extractLsb' 8 8 ++ i.extractLsb' 0 8 = i := by
  ext j hj
  simp
  grind

theorem off_byte0 (a b : BitVec 8) : BitVec.extractLsb' 0 8 (a ++ b : BitVec 16) = b := by
  ext j hj
  simp [BitVec.getElem_extractLsb']
  grind

theorem off_byte1 (a b : BitVec 8) : BitVec.extractLsb' 8 8 (a ++ b : BitVec 16) = a := by
  ext j hj
  simp [BitVec.getElem_extractLsb']
  grind

theorem imm_byte0 (a b c d : BitVec 8) : BitVec.extractLsb' 0 8 (a ++ b ++ c ++ d : BitVec 32) = d := by
  ext j hj
  simp [BitVec.getElem_extractLsb']
  grind

theorem imm_byte1 (a b c d : BitVec 8) : BitVec.extractLsb' 8 8 (a ++ b ++ c ++ d : BitVec 32) = c := by
  ext j hj
  simp [BitVec.getElem_extractLsb']
  grind

theorem imm_byte2 (a b c d : BitVec 8) : BitVec.extractLsb' 16 8 (a ++ b ++ c ++ d : BitVec 32) = b := by
  ext j hj
  simp [BitVec.getElem_extractLsb']
  grind

theorem imm_byte3 (a b c d : BitVec 8) : BitVec.extractLsb' 24 8 (a ++ b ++ c ++ d : BitVec 32) = a := by
  ext j hj
  simp [BitVec.getElem_extractLsb']
  grind

/-- The fields of the slot of given fields are those fields, on either host (30_encoding.md R49). -/
@[simp] theorem Fields.fields_slot (e : HostEndian) (f : Fields) : (f.slot e).fields e = f := by
  obtain ⟨o, d, s, off, imm⟩ := f
  cases e <;>
    simp only [Fields.slot, Slot.fields, nibbles_low, nibbles_high, Fields.mk.injEq, true_and, Nat.mul_zero,
      Nat.mul_one, Nat.reduceMul] <;>
    exact ⟨off_bytes_append off, imm_bytes_append imm⟩

/-- The slot of the fields of a slot is that slot, on either host (30_encoding.md R49). -/
@[simp] theorem Slot.slot_fields (e : HostEndian) (s : Slot) : (s.fields e).slot e = s := by
  obtain ⟨b0, b1, b2, b3, b4, b5, b6, b7⟩ := s
  cases e <;>
    simp only [Fields.slot, Slot.fields, Nat.mul_zero, Nat.mul_one, Nat.reduceMul, off_byte0, off_byte1, imm_byte0,
      imm_byte1, imm_byte2, imm_byte3, Slot.mk.injEq, and_self, and_true, true_and] <;>
    exact nibbles_append b1

/-- The canonical word of the fields of a canonical word (30_encoding.md R51). -/
@[simp] theorem Fields.word_ofWord (w : BitVec 64) : (Fields.ofWord w).word = w := by
  ext j hj
  simp [Fields.word, Fields.ofWord]
  grind

/-- The fields of the canonical word of fields (30_encoding.md R51). -/
@[simp] theorem Fields.ofWord_word (f : Fields) : Fields.ofWord f.word = f := by
  obtain ⟨o, d, s, off, imm⟩ := f
  simp only [Fields.word, Fields.ofWord, Fields.mk.injEq]
  refine ⟨?_, ?_, ?_, ?_, ?_⟩ <;> ext j hj <;>
    simp [BitVec.getElem_extractLsb'] <;> grind

end Sys2Proof
end

