-- ==== Sys2Proof/Laws/Exec.lean ====
section
/-! SUPPORT. What an instruction can do, said once: every next state of `exec` has one of eleven shapes, each
with the conditions under which it arises. -/

namespace Sys2Proof.Machine

/-- The shapes of a next state `t` of instruction `i` in state `s`. -/
inductive NextShape (i : Instr) (s t : State) : Prop
  /-- One register receives a value: arithmetic, byte swaps, 64-bit immediates. -/
  | register (c : BitVec 3) (d : Reg) (v : Word) (hc : i.opcodeClass = c) (hm : c ≠ 2 ∧ c ≠ 3 ∧ c ≠ 5 ∧ c ≠ 6)
      (hd : i.destination = some d) (hw : s.Writable d) (ht : t = (s.setReg d v).advance i.slots)
  /-- Only `pc` changes, to a valid target or to the next slot: the jumps. -/
  | jump (c : BitVec 3) (k : Nat) (hc : i.opcodeClass = c) (hm : c = 5 ∨ c = 6) (hk : s.isStart k = true ∨ k = s.pc + 1)
      (h1 : ∀ imm, i ≠ .callHelper imm) (h2 : ∀ imm, i ≠ .callBtf imm) (h3 : ∀ imm, i ≠ .callLocal imm) (h4 : i ≠ .exit)
      (ht : t = { s with pc := k })
  /-- One register receives a value that depends on memory: the loads. -/
  | load (ea : Word) (n : AccessSize) (d : Reg) (v : Word) (hc : i.opcodeClass = 1) (hs : i.slots = 1)
      (hd : i.destination = some d) (hw : s.Writable d) (ht : t = ((s.afterLoad ea n).setReg d v).advance 1)
  /-- Admitted bytes of memory are written: the stores. -/
  | store (c : BitVec 3) (ea : Word) (n : AccessSize) (v : Word) (hc : i.opcodeClass = c) (hm : c = 2 ∨ c = 3)
      (hs : i.slots = 1) (ha : s.admits ea n .write = true) (ht : t = (s.store ea n v).advance 1)
  /-- Admitted bytes are read and written: the atomics without FETCH. -/
  | modify (ea : Word) (n : AccessSize) (v : Word) (hc : i.opcodeClass = 3) (hs : i.slots = 1)
      (ha : s.admits ea n .atomic = true) (ht : t = ((s.afterLoad ea n).store ea n v).advance 1)
  /-- As `modify`, and the source register receives a value: the atomics with FETCH. -/
  | fetch (ea : Word) (n : AccessSize) (v : Word) (d : Reg) (w : Word) (hc : i.opcodeClass = 3) (hs : i.slots = 1)
      (ha : s.admits ea n .atomic = true) (hd : i.destination = some d) (hw : s.Writable d)
      (ht : t = (((s.afterLoad ea n).store ea n v).setReg d w).advance 1)
  /-- As `modify` or with memory as it was, and r0 receives a value: compare and exchange. -/
  | exchange (ea : Word) (n : AccessSize) (v : Word) (w : Word) (stores : Bool) (hc : i.opcodeClass = 3) (hs : i.slots = 1)
      (ha : s.admits ea n .atomic = true) (hi : ∃ d r off, i = .atomicCmpxchg32 d r off ∨ i = .atomicCmpxchg64 d r off)
      (ht : t = ((if stores then (s.afterLoad ea n).store ea n v else s.afterLoad ea n).setReg 0 w).advance 1)
  /-- A program-local function starts. -/
  | call (imm : Word32) (k : Nat) (hi : i = .callLocal imm) (hd : s.frames.length < s.params.maxCallDepth)
      (hk : s.isStart k = true) (ht : t = s.enterFunction k)
  /-- A helper has returned. -/
  | helper (k : HelperKind) (imm : Word32) (v : Word) (ws : List (Word × Byte))
      (hi : i = .callHelper imm ∨ i = .callBtf imm)
      (ht : t = s.drawSnapshot.helperReturn v ws ∨ t = (s.drawSnapshot.drawHelper k imm).helperReturn v ws)
  /-- The run has ended. -/
  | done (v : Word) (hi : i = .exit) (hf : s.frames = []) (ht : t = { s with result := some v })
  /-- A program-local function has returned. -/
  | return (f : Frame) (rest : List Frame) (hi : i = .exit) (hf : s.frames = f :: rest) (ht : t = s.returnTo f rest)

section

variable (i : Instr) (s t : State)

theorem NextShape.of_branch (c : BitVec 3) (taken : Bool) (off : BitVec 16) (hc : i.opcodeClass = c) (hm : c = 5 ∨ c = 6)
    (h1 : ∀ imm, i ≠ .callHelper imm) (h2 : ∀ imm, i ≠ .callBtf imm) (h3 : ∀ imm, i ≠ .callLocal imm) (h4 : i ≠ .exit)
    (h : branch taken off s = .ok t) : NextShape i s t := by
  rcases (branch_eq_ok _ _ _ _).1 h with ⟨_, h⟩ | ⟨_, h⟩
  · obtain ⟨_, hk, ht⟩ := (s.jump_eq_ok _ _).1 h
    exact .jump c _ hc hm (.inl hk) h1 h2 h3 h4 ht
  · exact .jump c _ hc hm (.inr rfl) h1 h2 h3 h4 h

theorem NextShape.of_alu64Imm (c : BitVec 3) (f : Word → Word → Word) (d : Reg) (imm : Word32) (hc : i.opcodeClass = c)
    (hm : c ≠ 2 ∧ c ≠ 3 ∧ c ≠ 5 ∧ c ≠ 6) (hd : i.destination = some d) (hs : i.slots = 1)
    (h : commit (alu64Imm f d imm s) = .next t) : NextShape i s t := by
  obtain ⟨hw, _, _, ht⟩ := (alu64Imm_eq_ok _ _ _ _ _).1 ((commit_eq_next _ _).1 h)
  exact .register c d _ hc hm hd hw (hs ▸ ht)

theorem NextShape.of_alu64Reg (c : BitVec 3) (f : Word → Word → Word) (d r : Reg) (hc : i.opcodeClass = c)
    (hm : c ≠ 2 ∧ c ≠ 3 ∧ c ≠ 5 ∧ c ≠ 6) (hd : i.destination = some d) (hs : i.slots = 1)
    (h : commit (alu64Reg f d r s) = .next t) : NextShape i s t := by
  obtain ⟨hw, _, _, _, _, ht⟩ := (alu64Reg_eq_ok _ _ _ _ _).1 ((commit_eq_next _ _).1 h)
  exact .register c d _ hc hm hd hw (hs ▸ ht)

theorem NextShape.of_alu32Imm (c : BitVec 3) (f : Word32 → Word32 → Word32) (d : Reg) (imm : Word32) (hc : i.opcodeClass = c)
    (hm : c ≠ 2 ∧ c ≠ 3 ∧ c ≠ 5 ∧ c ≠ 6) (hd : i.destination = some d) (hs : i.slots = 1)
    (h : commit (alu32Imm f d imm s) = .next t) : NextShape i s t := by
  obtain ⟨hw, _, _, ht⟩ := (alu32Imm_eq_ok _ _ _ _ _).1 ((commit_eq_next _ _).1 h)
  exact .register c d _ hc hm hd hw (hs ▸ ht)

theorem NextShape.of_alu32Reg (c : BitVec 3) (f : Word32 → Word32 → Word32) (d r : Reg) (hc : i.opcodeClass = c)
    (hm : c ≠ 2 ∧ c ≠ 3 ∧ c ≠ 5 ∧ c ≠ 6) (hd : i.destination = some d) (hs : i.slots = 1)
    (h : commit (alu32Reg f d r s) = .next t) : NextShape i s t := by
  obtain ⟨hw, _, _, _, _, ht⟩ := (alu32Reg_eq_ok _ _ _ _ _).1 ((commit_eq_next _ _).1 h)
  exact .register c d _ hc hm hd hw (hs ▸ ht)

theorem NextShape.of_unary (c : BitVec 3) (f : Word → Word) (d : Reg) (hc : i.opcodeClass = c)
    (hm : c ≠ 2 ∧ c ≠ 3 ∧ c ≠ 5 ∧ c ≠ 6) (hd : i.destination = some d) (hs : i.slots = 1)
    (h : commit (unary f d s) = .next t) : NextShape i s t := by
  obtain ⟨hw, _, _, ht⟩ := (unary_eq_ok _ _ _ _).1 ((commit_eq_next _ _).1 h)
  exact .register c d _ hc hm hd hw (hs ▸ ht)

theorem NextShape.of_moveValue (c : BitVec 3) (v : Word) (d : Reg) (hc : i.opcodeClass = c)
    (hm : c ≠ 2 ∧ c ≠ 3 ∧ c ≠ 5 ∧ c ≠ 6) (hd : i.destination = some d) (hs : i.slots = 1)
    (h : commit (moveValue v d s) = .next t) : NextShape i s t := by
  obtain ⟨hw, ht⟩ := (moveValue_eq_ok _ _ _ _).1 ((commit_eq_next _ _).1 h)
  exact .register c d _ hc hm hd hw (hs ▸ ht)

theorem NextShape.of_moveReg (c : BitVec 3) (f : Word → Word) (d r : Reg) (hc : i.opcodeClass = c)
    (hm : c ≠ 2 ∧ c ≠ 3 ∧ c ≠ 5 ∧ c ≠ 6) (hd : i.destination = some d) (hs : i.slots = 1)
    (h : commit (moveReg f d r s) = .next t) : NextShape i s t := by
  obtain ⟨hw, _, _, ht⟩ := (moveReg_eq_ok _ _ _ _ _).1 ((commit_eq_next _ _).1 h)
  exact .register c d _ hc hm hd hw (hs ▸ ht)

theorem NextShape.of_wideValue (c : BitVec 3) (v : Word) (d : Reg) (hc : i.opcodeClass = c)
    (hm : c ≠ 2 ∧ c ≠ 3 ∧ c ≠ 5 ∧ c ≠ 6) (hd : i.destination = some d) (hs : i.slots = 2)
    (h : commit (wideValue v d s) = .next t) : NextShape i s t := by
  obtain ⟨hw, ht⟩ := (wideValue_eq_ok _ _ _ _).1 ((commit_eq_next _ _).1 h)
  exact .register c d _ hc hm hd hw (hs ▸ ht)

theorem NextShape.of_wideLookup (c : BitVec 3) (k : BitVec 4) (imm : Word32) (v : Option Word) (d : Reg) (hc : i.opcodeClass = c)
    (hm : c ≠ 2 ∧ c ≠ 3 ∧ c ≠ 5 ∧ c ≠ 6) (hd : i.destination = some d) (hs : i.slots = 2)
    (h : commit (wideLookup k imm v d s) = .next t) : NextShape i s t := by
  obtain ⟨hw, _, _, ht⟩ := (wideLookup_eq_ok _ _ _ _ _ _).1 ((commit_eq_next _ _).1 h)
  exact .register c d _ hc hm hd hw (hs ▸ ht)

theorem NextShape.of_jump64Imm (c : BitVec 3) (f : Word → Word → Bool) (d : Reg) (imm : Word32) (off : BitVec 16) (hc : i.opcodeClass = c) (hm : c = 5 ∨ c = 6)
    (h1 : ∀ imm, i ≠ .callHelper imm) (h2 : ∀ imm, i ≠ .callBtf imm) (h3 : ∀ imm, i ≠ .callLocal imm) (h4 : i ≠ .exit)
    (h : commit (jump64Imm f d imm off s) = .next t) : NextShape i s t := by
  obtain ⟨_, _, h⟩ := (jump64Imm_eq_ok _ _ _ _ _ _).1 ((commit_eq_next _ _).1 h)
  exact .of_branch i s t c _ off hc hm h1 h2 h3 h4 h

theorem NextShape.of_jump64Reg (c : BitVec 3) (f : Word → Word → Bool) (d r : Reg) (off : BitVec 16) (hc : i.opcodeClass = c) (hm : c = 5 ∨ c = 6)
    (h1 : ∀ imm, i ≠ .callHelper imm) (h2 : ∀ imm, i ≠ .callBtf imm) (h3 : ∀ imm, i ≠ .callLocal imm) (h4 : i ≠ .exit)
    (h : commit (jump64Reg f d r off s) = .next t) : NextShape i s t := by
  obtain ⟨_, _, _, _, h⟩ := (jump64Reg_eq_ok _ _ _ _ _ _).1 ((commit_eq_next _ _).1 h)
  exact .of_branch i s t c _ off hc hm h1 h2 h3 h4 h

theorem NextShape.of_jump32Imm (c : BitVec 3) (f : Word32 → Word32 → Bool) (d : Reg) (imm : Word32) (off : BitVec 16) (hc : i.opcodeClass = c) (hm : c = 5 ∨ c = 6)
    (h1 : ∀ imm, i ≠ .callHelper imm) (h2 : ∀ imm, i ≠ .callBtf imm) (h3 : ∀ imm, i ≠ .callLocal imm) (h4 : i ≠ .exit)
    (h : commit (jump32Imm f d imm off s) = .next t) : NextShape i s t := by
  obtain ⟨_, _, h⟩ := (jump32Imm_eq_ok _ _ _ _ _ _).1 ((commit_eq_next _ _).1 h)
  exact .of_branch i s t c _ off hc hm h1 h2 h3 h4 h

theorem NextShape.of_jump32Reg (c : BitVec 3) (f : Word32 → Word32 → Bool) (d r : Reg) (off : BitVec 16) (hc : i.opcodeClass = c) (hm : c = 5 ∨ c = 6)
    (h1 : ∀ imm, i ≠ .callHelper imm) (h2 : ∀ imm, i ≠ .callBtf imm) (h3 : ∀ imm, i ≠ .callLocal imm) (h4 : i ≠ .exit)
    (h : commit (jump32Reg f d r off s) = .next t) : NextShape i s t := by
  obtain ⟨_, _, _, _, h⟩ := (jump32Reg_eq_ok _ _ _ _ _ _).1 ((commit_eq_next _ _).1 h)
  exact .of_branch i s t c _ off hc hm h1 h2 h3 h4 h

theorem NextShape.of_jump (c : BitVec 3) (delta : Int) (hc : i.opcodeClass = c) (hm : c = 5 ∨ c = 6)
    (h1 : ∀ imm, i ≠ .callHelper imm) (h2 : ∀ imm, i ≠ .callBtf imm) (h3 : ∀ imm, i ≠ .callLocal imm) (h4 : i ≠ .exit)
    (h : commit (s.jump delta) = .next t) : NextShape i s t := by
  obtain ⟨_, hk, ht⟩ := (s.jump_eq_ok _ _).1 ((commit_eq_next _ _).1 h)
  exact .jump c _ hc hm (.inl hk) h1 h2 h3 h4 ht

theorem NextShape.of_loadInto (n : AccessSize) (ext : Word → Word) (d r : Reg) (off : BitVec 16) (hc : i.opcodeClass = 1)
    (hs : i.slots = 1) (hd : i.destination = some d) (h : commit (loadInto n ext d r off s) = .next t) :
    NextShape i s t := by
  obtain ⟨hw, _, _, _, ht⟩ := (loadInto_eq_ok _ _ _ _ _ _ _).1 ((commit_eq_next _ _).1 h)
  exact .load _ n d _ hc hs hd hw ht

theorem NextShape.of_storeImm (n : AccessSize) (d : Reg) (off : BitVec 16) (imm : Word32) (hc : i.opcodeClass = 2)
    (hs : i.slots = 1) (h : commit (storeImm n d off imm s) = .next t) : NextShape i s t := by
  obtain ⟨_, _, ha, ht⟩ := (storeImm_eq_ok _ _ _ _ _ _).1 ((commit_eq_next _ _).1 h)
  exact .store 2 _ n _ hc (.inl rfl) hs ha.2 ht

theorem NextShape.of_storeReg (n : AccessSize) (d r : Reg) (off : BitVec 16) (hc : i.opcodeClass = 3)
    (hs : i.slots = 1) (h : commit (storeReg n d r off s) = .next t) : NextShape i s t := by
  obtain ⟨_, _, _, _, ha, ht⟩ := (storeReg_eq_ok _ _ _ _ _ _).1 ((commit_eq_next _ _).1 h)
  exact .store 3 _ n _ hc (.inr rfl) hs ha.2 ht

theorem NextShape.of_atomicModify (n : AccessSize) (f : Word → Word → Word) (d r : Reg) (off : BitVec 16)
    (hc : i.opcodeClass = 3) (hs : i.slots = 1) (h : commit (atomicModify n f d r off s) = .next t) :
    NextShape i s t := by
  obtain ⟨_, _, _, _, ha, ht⟩ := (atomicModify_eq_ok _ _ _ _ _ _ _).1 ((commit_eq_next _ _).1 h)
  exact .modify _ n _ hc hs ha.2 ht

theorem NextShape.of_atomicFetch (n : AccessSize) (f : Word → Word → Word) (d r : Reg) (off : BitVec 16)
    (hc : i.opcodeClass = 3) (hs : i.slots = 1) (hd : i.destination = some r)
    (h : commit (atomicFetch n f d r off s) = .next t) : NextShape i s t := by
  obtain ⟨hw, _, _, _, _, ha, ht⟩ := (atomicFetch_eq_ok _ _ _ _ _ _ _).1 ((commit_eq_next _ _).1 h)
  exact .fetch _ n _ r _ hc hs ha.2 hd hw ht

theorem NextShape.of_atomicCompareExchange (n : AccessSize) (d r : Reg) (off : BitVec 16) (hc : i.opcodeClass = 3)
    (hs : i.slots = 1) (hi : ∃ d r off, i = .atomicCmpxchg32 d r off ∨ i = .atomicCmpxchg64 d r off)
    (h : commit (atomicCompareExchange n d r off s) = .next t) : NextShape i s t := by
  obtain ⟨base, _, v, _, c, _, ha, ht⟩ := (atomicCompareExchange_eq_ok _ _ _ _ _ _).1 ((commit_eq_next _ _).1 h)
  exact .exchange _ n _ _ (decide (s.load (effectiveAddress base off) n = lowBytes n.bytes c)) hc hs ha.2 hi
    (by simpa only [decide_eq_true_eq] using ht)

theorem NextShape.of_callHelper (k : HelperKind) (imm : Word32) (hi : i = .callHelper imm ∨ i = .callBtf imm)
    (h : commit (s.callHelper k imm) = .next t) : NextShape i s t := by
  obtain ⟨v, ws, ht⟩ := s.callHelper_next t k imm ((commit_eq_next _ _).1 h)
  exact .helper k imm v ws hi ht

end

/-- Every next state of an instruction has one of the shapes. -/
theorem exec_shape (i : Instr) (s t : State) (h : exec i s = .next t) : NextShape i s t := by
  cases i with
  | add64Imm =>
    exact .of_alu64Imm _ s t 7 _ _ _ (by simp [Instr.opcodeClass, Instr.encodeFields]) (by decide) rfl rfl h
  | add64Reg =>
    exact .of_alu64Reg _ s t 7 _ _ _ (by simp [Instr.opcodeClass, Instr.encodeFields]) (by decide) rfl rfl h
  | add32Imm =>
    exact .of_alu32Imm _ s t 4 _ _ _ (by simp [Instr.opcodeClass, Instr.encodeFields]) (by decide) rfl rfl h
  | add32Reg =>
    exact .of_alu32Reg _ s t 4 _ _ _ (by simp [Instr.opcodeClass, Instr.encodeFields]) (by decide) rfl rfl h
  | sub64Imm =>
    exact .of_alu64Imm _ s t 7 _ _ _ (by simp [Instr.opcodeClass, Instr.encodeFields]) (by decide) rfl rfl h
  | sub64Reg =>
    exact .of_alu64Reg _ s t 7 _ _ _ (by simp [Instr.opcodeClass, Instr.encodeFields]) (by decide) rfl rfl h
  | sub32Imm =>
    exact .of_alu32Imm _ s t 4 _ _ _ (by simp [Instr.opcodeClass, Instr.encodeFields]) (by decide) rfl rfl h
  | sub32Reg =>
    exact .of_alu32Reg _ s t 4 _ _ _ (by simp [Instr.opcodeClass, Instr.encodeFields]) (by decide) rfl rfl h
  | mul64Imm =>
    exact .of_alu64Imm _ s t 7 _ _ _ (by simp [Instr.opcodeClass, Instr.encodeFields]) (by decide) rfl rfl h
  | mul64Reg =>
    exact .of_alu64Reg _ s t 7 _ _ _ (by simp [Instr.opcodeClass, Instr.encodeFields]) (by decide) rfl rfl h
  | mul32Imm =>
    exact .of_alu32Imm _ s t 4 _ _ _ (by simp [Instr.opcodeClass, Instr.encodeFields]) (by decide) rfl rfl h
  | mul32Reg =>
    exact .of_alu32Reg _ s t 4 _ _ _ (by simp [Instr.opcodeClass, Instr.encodeFields]) (by decide) rfl rfl h
  | div64Imm =>
    exact .of_alu64Imm _ s t 7 _ _ _ (by simp [Instr.opcodeClass, Instr.encodeFields]) (by decide) rfl rfl h
  | div64Reg =>
    exact .of_alu64Reg _ s t 7 _ _ _ (by simp [Instr.opcodeClass, Instr.encodeFields]) (by decide) rfl rfl h
  | div32Imm =>
    exact .of_alu32Imm _ s t 4 _ _ _ (by simp [Instr.opcodeClass, Instr.encodeFields]) (by decide) rfl rfl h
  | div32Reg =>
    exact .of_alu32Reg _ s t 4 _ _ _ (by simp [Instr.opcodeClass, Instr.encodeFields]) (by decide) rfl rfl h
  | sdiv64Imm =>
    exact .of_alu64Imm _ s t 7 _ _ _ (by simp [Instr.opcodeClass, Instr.encodeFields]) (by decide) rfl rfl h
  | sdiv64Reg =>
    exact .of_alu64Reg _ s t 7 _ _ _ (by simp [Instr.opcodeClass, Instr.encodeFields]) (by decide) rfl rfl h
  | sdiv32Imm =>
    exact .of_alu32Imm _ s t 4 _ _ _ (by simp [Instr.opcodeClass, Instr.encodeFields]) (by decide) rfl rfl h
  | sdiv32Reg =>
    exact .of_alu32Reg _ s t 4 _ _ _ (by simp [Instr.opcodeClass, Instr.encodeFields]) (by decide) rfl rfl h
  | or64Imm =>
    exact .of_alu64Imm _ s t 7 _ _ _ (by simp [Instr.opcodeClass, Instr.encodeFields]) (by decide) rfl rfl h
  | or64Reg =>
    exact .of_alu64Reg _ s t 7 _ _ _ (by simp [Instr.opcodeClass, Instr.encodeFields]) (by decide) rfl rfl h
  | or32Imm =>
    exact .of_alu32Imm _ s t 4 _ _ _ (by simp [Instr.opcodeClass, Instr.encodeFields]) (by decide) rfl rfl h
  | or32Reg =>
    exact .of_alu32Reg _ s t 4 _ _ _ (by simp [Instr.opcodeClass, Instr.encodeFields]) (by decide) rfl rfl h
  | and64Imm =>
    exact .of_alu64Imm _ s t 7 _ _ _ (by simp [Instr.opcodeClass, Instr.encodeFields]) (by decide) rfl rfl h
  | and64Reg =>
    exact .of_alu64Reg _ s t 7 _ _ _ (by simp [Instr.opcodeClass, Instr.encodeFields]) (by decide) rfl rfl h
  | and32Imm =>
    exact .of_alu32Imm _ s t 4 _ _ _ (by simp [Instr.opcodeClass, Instr.encodeFields]) (by decide) rfl rfl h
  | and32Reg =>
    exact .of_alu32Reg _ s t 4 _ _ _ (by simp [Instr.opcodeClass, Instr.encodeFields]) (by decide) rfl rfl h
  | lsh64Imm =>
    exact .of_alu64Imm _ s t 7 _ _ _ (by simp [Instr.opcodeClass, Instr.encodeFields]) (by decide) rfl rfl h
  | lsh64Reg =>
    exact .of_alu64Reg _ s t 7 _ _ _ (by simp [Instr.opcodeClass, Instr.encodeFields]) (by decide) rfl rfl h
  | lsh32Imm =>
    exact .of_alu32Imm _ s t 4 _ _ _ (by simp [Instr.opcodeClass, Instr.encodeFields]) (by decide) rfl rfl h
  | lsh32Reg =>
    exact .of_alu32Reg _ s t 4 _ _ _ (by simp [Instr.opcodeClass, Instr.encodeFields]) (by decide) rfl rfl h
  | rsh64Imm =>
    exact .of_alu64Imm _ s t 7 _ _ _ (by simp [Instr.opcodeClass, Instr.encodeFields]) (by decide) rfl rfl h
  | rsh64Reg =>
    exact .of_alu64Reg _ s t 7 _ _ _ (by simp [Instr.opcodeClass, Instr.encodeFields]) (by decide) rfl rfl h
  | rsh32Imm =>
    exact .of_alu32Imm _ s t 4 _ _ _ (by simp [Instr.opcodeClass, Instr.encodeFields]) (by decide) rfl rfl h
  | rsh32Reg =>
    exact .of_alu32Reg _ s t 4 _ _ _ (by simp [Instr.opcodeClass, Instr.encodeFields]) (by decide) rfl rfl h
  | mod64Imm =>
    exact .of_alu64Imm _ s t 7 _ _ _ (by simp [Instr.opcodeClass, Instr.encodeFields]) (by decide) rfl rfl h
  | mod64Reg =>
    exact .of_alu64Reg _ s t 7 _ _ _ (by simp [Instr.opcodeClass, Instr.encodeFields]) (by decide) rfl rfl h
  | mod32Imm =>
    exact .of_alu32Imm _ s t 4 _ _ _ (by simp [Instr.opcodeClass, Instr.encodeFields]) (by decide) rfl rfl h
  | mod32Reg =>
    exact .of_alu32Reg _ s t 4 _ _ _ (by simp [Instr.opcodeClass, Instr.encodeFields]) (by decide) rfl rfl h
  | smod64Imm =>
    exact .of_alu64Imm _ s t 7 _ _ _ (by simp [Instr.opcodeClass, Instr.encodeFields]) (by decide) rfl rfl h
  | smod64Reg =>
    exact .of_alu64Reg _ s t 7 _ _ _ (by simp [Instr.opcodeClass, Instr.encodeFields]) (by decide) rfl rfl h
  | smod32Imm =>
    exact .of_alu32Imm _ s t 4 _ _ _ (by simp [Instr.opcodeClass, Instr.encodeFields]) (by decide) rfl rfl h
  | smod32Reg =>
    exact .of_alu32Reg _ s t 4 _ _ _ (by simp [Instr.opcodeClass, Instr.encodeFields]) (by decide) rfl rfl h
  | xor64Imm =>
    exact .of_alu64Imm _ s t 7 _ _ _ (by simp [Instr.opcodeClass, Instr.encodeFields]) (by decide) rfl rfl h
  | xor64Reg =>
    exact .of_alu64Reg _ s t 7 _ _ _ (by simp [Instr.opcodeClass, Instr.encodeFields]) (by decide) rfl rfl h
  | xor32Imm =>
    exact .of_alu32Imm _ s t 4 _ _ _ (by simp [Instr.opcodeClass, Instr.encodeFields]) (by decide) rfl rfl h
  | xor32Reg =>
    exact .of_alu32Reg _ s t 4 _ _ _ (by simp [Instr.opcodeClass, Instr.encodeFields]) (by decide) rfl rfl h
  | mov64Imm =>
    exact .of_moveValue _ s t 7 _ _ (by simp [Instr.opcodeClass, Instr.encodeFields]) (by decide) rfl rfl h
  | mov64Reg =>
    exact .of_moveReg _ s t 7 _ _ _ (by simp [Instr.opcodeClass, Instr.encodeFields]) (by decide) rfl rfl h
  | mov32Imm =>
    exact .of_moveValue _ s t 4 _ _ (by simp [Instr.opcodeClass, Instr.encodeFields]) (by decide) rfl rfl h
  | mov32Reg =>
    exact .of_moveReg _ s t 4 _ _ _ (by simp [Instr.opcodeClass, Instr.encodeFields]) (by decide) rfl rfl h
  | arsh64Imm =>
    exact .of_alu64Imm _ s t 7 _ _ _ (by simp [Instr.opcodeClass, Instr.encodeFields]) (by decide) rfl rfl h
  | arsh64Reg =>
    exact .of_alu64Reg _ s t 7 _ _ _ (by simp [Instr.opcodeClass, Instr.encodeFields]) (by decide) rfl rfl h
  | arsh32Imm =>
    exact .of_alu32Imm _ s t 4 _ _ _ (by simp [Instr.opcodeClass, Instr.encodeFields]) (by decide) rfl rfl h
  | arsh32Reg =>
    exact .of_alu32Reg _ s t 4 _ _ _ (by simp [Instr.opcodeClass, Instr.encodeFields]) (by decide) rfl rfl h
  | neg64 => exact .of_unary _ s t 7 _ _ (by simp [Instr.opcodeClass, Instr.encodeFields]) (by decide) rfl rfl h
  | neg32 => exact .of_unary _ s t 4 _ _ (by simp [Instr.opcodeClass, Instr.encodeFields]) (by decide) rfl rfl h
  | movsx64From8 =>
    exact .of_moveReg _ s t 7 _ _ _ (by simp [Instr.opcodeClass, Instr.encodeFields]) (by decide) rfl rfl h
  | movsx64From16 =>
    exact .of_moveReg _ s t 7 _ _ _ (by simp [Instr.opcodeClass, Instr.encodeFields]) (by decide) rfl rfl h
  | movsx64From32 =>
    exact .of_moveReg _ s t 7 _ _ _ (by simp [Instr.opcodeClass, Instr.encodeFields]) (by decide) rfl rfl h
  | movsx32From8 =>
    exact .of_moveReg _ s t 4 _ _ _ (by simp [Instr.opcodeClass, Instr.encodeFields]) (by decide) rfl rfl h
  | movsx32From16 =>
    exact .of_moveReg _ s t 4 _ _ _ (by simp [Instr.opcodeClass, Instr.encodeFields]) (by decide) rfl rfl h
  | le16 => exact .of_unary _ s t 4 _ _ (by simp [Instr.opcodeClass, Instr.encodeFields]) (by decide) rfl rfl h
  | le32 => exact .of_unary _ s t 4 _ _ (by simp [Instr.opcodeClass, Instr.encodeFields]) (by decide) rfl rfl h
  | le64 => exact .of_unary _ s t 4 _ _ (by simp [Instr.opcodeClass, Instr.encodeFields]) (by decide) rfl rfl h
  | be16 => exact .of_unary _ s t 4 _ _ (by simp [Instr.opcodeClass, Instr.encodeFields]) (by decide) rfl rfl h
  | be32 => exact .of_unary _ s t 4 _ _ (by simp [Instr.opcodeClass, Instr.encodeFields]) (by decide) rfl rfl h
  | be64 => exact .of_unary _ s t 4 _ _ (by simp [Instr.opcodeClass, Instr.encodeFields]) (by decide) rfl rfl h
  | bswap16 => exact .of_unary _ s t 7 _ _ (by simp [Instr.opcodeClass, Instr.encodeFields]) (by decide) rfl rfl h
  | bswap32 => exact .of_unary _ s t 7 _ _ (by simp [Instr.opcodeClass, Instr.encodeFields]) (by decide) rfl rfl h
  | bswap64 => exact .of_unary _ s t 7 _ _ (by simp [Instr.opcodeClass, Instr.encodeFields]) (by decide) rfl rfl h
  | ja =>
    exact .of_jump _ s t 5 _ (by simp [Instr.opcodeClass, Instr.encodeFields]) (by decide) (by simp) (by simp) (by simp) (by simp) h
  | ja32 =>
    exact .of_jump _ s t 6 _ (by simp [Instr.opcodeClass, Instr.encodeFields]) (by decide) (by simp) (by simp) (by simp) (by simp) h
  | jeq64Imm =>
    exact .of_jump64Imm _ s t 5 _ _ _ _ (by simp [Instr.opcodeClass, Instr.encodeFields]) (by decide) (by simp) (by simp) (by simp) (by simp) h
  | jeq64Reg =>
    exact .of_jump64Reg _ s t 5 _ _ _ _ (by simp [Instr.opcodeClass, Instr.encodeFields]) (by decide) (by simp) (by simp) (by simp) (by simp) h
  | jeq32Imm =>
    exact .of_jump32Imm _ s t 6 _ _ _ _ (by simp [Instr.opcodeClass, Instr.encodeFields]) (by decide) (by simp) (by simp) (by simp) (by simp) h
  | jeq32Reg =>
    exact .of_jump32Reg _ s t 6 _ _ _ _ (by simp [Instr.opcodeClass, Instr.encodeFields]) (by decide) (by simp) (by simp) (by simp) (by simp) h
  | jgt64Imm =>
    exact .of_jump64Imm _ s t 5 _ _ _ _ (by simp [Instr.opcodeClass, Instr.encodeFields]) (by decide) (by simp) (by simp) (by simp) (by simp) h
  | jgt64Reg =>
    exact .of_jump64Reg _ s t 5 _ _ _ _ (by simp [Instr.opcodeClass, Instr.encodeFields]) (by decide) (by simp) (by simp) (by simp) (by simp) h
  | jgt32Imm =>
    exact .of_jump32Imm _ s t 6 _ _ _ _ (by simp [Instr.opcodeClass, Instr.encodeFields]) (by decide) (by simp) (by simp) (by simp) (by simp) h
  | jgt32Reg =>
    exact .of_jump32Reg _ s t 6 _ _ _ _ (by simp [Instr.opcodeClass, Instr.encodeFields]) (by decide) (by simp) (by simp) (by simp) (by simp) h
  | jge64Imm =>
    exact .of_jump64Imm _ s t 5 _ _ _ _ (by simp [Instr.opcodeClass, Instr.encodeFields]) (by decide) (by simp) (by simp) (by simp) (by simp) h
  | jge64Reg =>
    exact .of_jump64Reg _ s t 5 _ _ _ _ (by simp [Instr.opcodeClass, Instr.encodeFields]) (by decide) (by simp) (by simp) (by simp) (by simp) h
  | jge32Imm =>
    exact .of_jump32Imm _ s t 6 _ _ _ _ (by simp [Instr.opcodeClass, Instr.encodeFields]) (by decide) (by simp) (by simp) (by simp) (by simp) h
  | jge32Reg =>
    exact .of_jump32Reg _ s t 6 _ _ _ _ (by simp [Instr.opcodeClass, Instr.encodeFields]) (by decide) (by simp) (by simp) (by simp) (by simp) h
  | jset64Imm =>
    exact .of_jump64Imm _ s t 5 _ _ _ _ (by simp [Instr.opcodeClass, Instr.encodeFields]) (by decide) (by simp) (by simp) (by simp) (by simp) h
  | jset64Reg =>
    exact .of_jump64Reg _ s t 5 _ _ _ _ (by simp [Instr.opcodeClass, Instr.encodeFields]) (by decide) (by simp) (by simp) (by simp) (by simp) h
  | jset32Imm =>
    exact .of_jump32Imm _ s t 6 _ _ _ _ (by simp [Instr.opcodeClass, Instr.encodeFields]) (by decide) (by simp) (by simp) (by simp) (by simp) h
  | jset32Reg =>
    exact .of_jump32Reg _ s t 6 _ _ _ _ (by simp [Instr.opcodeClass, Instr.encodeFields]) (by decide) (by simp) (by simp) (by simp) (by simp) h
  | jne64Imm =>
    exact .of_jump64Imm _ s t 5 _ _ _ _ (by simp [Instr.opcodeClass, Instr.encodeFields]) (by decide) (by simp) (by simp) (by simp) (by simp) h
  | jne64Reg =>
    exact .of_jump64Reg _ s t 5 _ _ _ _ (by simp [Instr.opcodeClass, Instr.encodeFields]) (by decide) (by simp) (by simp) (by simp) (by simp) h
  | jne32Imm =>
    exact .of_jump32Imm _ s t 6 _ _ _ _ (by simp [Instr.opcodeClass, Instr.encodeFields]) (by decide) (by simp) (by simp) (by simp) (by simp) h
  | jne32Reg =>
    exact .of_jump32Reg _ s t 6 _ _ _ _ (by simp [Instr.opcodeClass, Instr.encodeFields]) (by decide) (by simp) (by simp) (by simp) (by simp) h
  | jsgt64Imm =>
    exact .of_jump64Imm _ s t 5 _ _ _ _ (by simp [Instr.opcodeClass, Instr.encodeFields]) (by decide) (by simp) (by simp) (by simp) (by simp) h
  | jsgt64Reg =>
    exact .of_jump64Reg _ s t 5 _ _ _ _ (by simp [Instr.opcodeClass, Instr.encodeFields]) (by decide) (by simp) (by simp) (by simp) (by simp) h
  | jsgt32Imm =>
    exact .of_jump32Imm _ s t 6 _ _ _ _ (by simp [Instr.opcodeClass, Instr.encodeFields]) (by decide) (by simp) (by simp) (by simp) (by simp) h
  | jsgt32Reg =>
    exact .of_jump32Reg _ s t 6 _ _ _ _ (by simp [Instr.opcodeClass, Instr.encodeFields]) (by decide) (by simp) (by simp) (by simp) (by simp) h
  | jsge64Imm =>
    exact .of_jump64Imm _ s t 5 _ _ _ _ (by simp [Instr.opcodeClass, Instr.encodeFields]) (by decide) (by simp) (by simp) (by simp) (by simp) h
  | jsge64Reg =>
    exact .of_jump64Reg _ s t 5 _ _ _ _ (by simp [Instr.opcodeClass, Instr.encodeFields]) (by decide) (by simp) (by simp) (by simp) (by simp) h
  | jsge32Imm =>
    exact .of_jump32Imm _ s t 6 _ _ _ _ (by simp [Instr.opcodeClass, Instr.encodeFields]) (by decide) (by simp) (by simp) (by simp) (by simp) h
  | jsge32Reg =>
    exact .of_jump32Reg _ s t 6 _ _ _ _ (by simp [Instr.opcodeClass, Instr.encodeFields]) (by decide) (by simp) (by simp) (by simp) (by simp) h
  | jlt64Imm =>
    exact .of_jump64Imm _ s t 5 _ _ _ _ (by simp [Instr.opcodeClass, Instr.encodeFields]) (by decide) (by simp) (by simp) (by simp) (by simp) h
  | jlt64Reg =>
    exact .of_jump64Reg _ s t 5 _ _ _ _ (by simp [Instr.opcodeClass, Instr.encodeFields]) (by decide) (by simp) (by simp) (by simp) (by simp) h
  | jlt32Imm =>
    exact .of_jump32Imm _ s t 6 _ _ _ _ (by simp [Instr.opcodeClass, Instr.encodeFields]) (by decide) (by simp) (by simp) (by simp) (by simp) h
  | jlt32Reg =>
    exact .of_jump32Reg _ s t 6 _ _ _ _ (by simp [Instr.opcodeClass, Instr.encodeFields]) (by decide) (by simp) (by simp) (by simp) (by simp) h
  | jle64Imm =>
    exact .of_jump64Imm _ s t 5 _ _ _ _ (by simp [Instr.opcodeClass, Instr.encodeFields]) (by decide) (by simp) (by simp) (by simp) (by simp) h
  | jle64Reg =>
    exact .of_jump64Reg _ s t 5 _ _ _ _ (by simp [Instr.opcodeClass, Instr.encodeFields]) (by decide) (by simp) (by simp) (by simp) (by simp) h
  | jle32Imm =>
    exact .of_jump32Imm _ s t 6 _ _ _ _ (by simp [Instr.opcodeClass, Instr.encodeFields]) (by decide) (by simp) (by simp) (by simp) (by simp) h
  | jle32Reg =>
    exact .of_jump32Reg _ s t 6 _ _ _ _ (by simp [Instr.opcodeClass, Instr.encodeFields]) (by decide) (by simp) (by simp) (by simp) (by simp) h
  | jslt64Imm =>
    exact .of_jump64Imm _ s t 5 _ _ _ _ (by simp [Instr.opcodeClass, Instr.encodeFields]) (by decide) (by simp) (by simp) (by simp) (by simp) h
  | jslt64Reg =>
    exact .of_jump64Reg _ s t 5 _ _ _ _ (by simp [Instr.opcodeClass, Instr.encodeFields]) (by decide) (by simp) (by simp) (by simp) (by simp) h
  | jslt32Imm =>
    exact .of_jump32Imm _ s t 6 _ _ _ _ (by simp [Instr.opcodeClass, Instr.encodeFields]) (by decide) (by simp) (by simp) (by simp) (by simp) h
  | jslt32Reg =>
    exact .of_jump32Reg _ s t 6 _ _ _ _ (by simp [Instr.opcodeClass, Instr.encodeFields]) (by decide) (by simp) (by simp) (by simp) (by simp) h
  | jsle64Imm =>
    exact .of_jump64Imm _ s t 5 _ _ _ _ (by simp [Instr.opcodeClass, Instr.encodeFields]) (by decide) (by simp) (by simp) (by simp) (by simp) h
  | jsle64Reg =>
    exact .of_jump64Reg _ s t 5 _ _ _ _ (by simp [Instr.opcodeClass, Instr.encodeFields]) (by decide) (by simp) (by simp) (by simp) (by simp) h
  | jsle32Imm =>
    exact .of_jump32Imm _ s t 6 _ _ _ _ (by simp [Instr.opcodeClass, Instr.encodeFields]) (by decide) (by simp) (by simp) (by simp) (by simp) h
  | jsle32Reg =>
    exact .of_jump32Reg _ s t 6 _ _ _ _ (by simp [Instr.opcodeClass, Instr.encodeFields]) (by decide) (by simp) (by simp) (by simp) (by simp) h
  | callHelper => exact .of_callHelper _ s t _ _ (.inl rfl) h
  | callLocal imm =>
    obtain ⟨hd, _, hk, ht⟩ := (s.callLocal_eq_ok _ _).1 ((commit_eq_next _ _).1 h)
    exact .call imm _ rfl hd hk ht
  | callBtf => exact .of_callHelper _ s t _ _ (.inr rfl) h
  | exit =>
    obtain ⟨v, _, ⟨hf, ht⟩ | ⟨f, rest, hf, ht⟩⟩ := (s.leaveFunction_eq_ok _).1 ((commit_eq_next _ _).1 h)
    · exact .done v rfl hf ht
    · exact .return f rest rfl hf ht
  | ldxw => exact .of_loadInto _ s t _ _ _ _ _ (by simp [Instr.opcodeClass, Instr.encodeFields]) rfl rfl h
  | ldxh => exact .of_loadInto _ s t _ _ _ _ _ (by simp [Instr.opcodeClass, Instr.encodeFields]) rfl rfl h
  | ldxb => exact .of_loadInto _ s t _ _ _ _ _ (by simp [Instr.opcodeClass, Instr.encodeFields]) rfl rfl h
  | ldxdw => exact .of_loadInto _ s t _ _ _ _ _ (by simp [Instr.opcodeClass, Instr.encodeFields]) rfl rfl h
  | ldxsw => exact .of_loadInto _ s t _ _ _ _ _ (by simp [Instr.opcodeClass, Instr.encodeFields]) rfl rfl h
  | ldxsh => exact .of_loadInto _ s t _ _ _ _ _ (by simp [Instr.opcodeClass, Instr.encodeFields]) rfl rfl h
  | ldxsb => exact .of_loadInto _ s t _ _ _ _ _ (by simp [Instr.opcodeClass, Instr.encodeFields]) rfl rfl h
  | stw => exact .of_storeImm _ s t _ _ _ _ (by simp [Instr.opcodeClass, Instr.encodeFields]) rfl h
  | sth => exact .of_storeImm _ s t _ _ _ _ (by simp [Instr.opcodeClass, Instr.encodeFields]) rfl h
  | stb => exact .of_storeImm _ s t _ _ _ _ (by simp [Instr.opcodeClass, Instr.encodeFields]) rfl h
  | stdw => exact .of_storeImm _ s t _ _ _ _ (by simp [Instr.opcodeClass, Instr.encodeFields]) rfl h
  | stxw => exact .of_storeReg _ s t _ _ _ _ (by simp [Instr.opcodeClass, Instr.encodeFields]) rfl h
  | stxh => exact .of_storeReg _ s t _ _ _ _ (by simp [Instr.opcodeClass, Instr.encodeFields]) rfl h
  | stxb => exact .of_storeReg _ s t _ _ _ _ (by simp [Instr.opcodeClass, Instr.encodeFields]) rfl h
  | stxdw => exact .of_storeReg _ s t _ _ _ _ (by simp [Instr.opcodeClass, Instr.encodeFields]) rfl h
  | atomicAdd32 => exact .of_atomicModify _ s t _ _ _ _ _ (by simp [Instr.opcodeClass, Instr.encodeFields]) rfl h
  | atomicFetchAdd32 =>
    exact .of_atomicFetch _ s t _ _ _ _ _ (by simp [Instr.opcodeClass, Instr.encodeFields]) rfl rfl h
  | atomicOr32 => exact .of_atomicModify _ s t _ _ _ _ _ (by simp [Instr.opcodeClass, Instr.encodeFields]) rfl h
  | atomicFetchOr32 =>
    exact .of_atomicFetch _ s t _ _ _ _ _ (by simp [Instr.opcodeClass, Instr.encodeFields]) rfl rfl h
  | atomicAnd32 => exact .of_atomicModify _ s t _ _ _ _ _ (by simp [Instr.opcodeClass, Instr.encodeFields]) rfl h
  | atomicFetchAnd32 =>
    exact .of_atomicFetch _ s t _ _ _ _ _ (by simp [Instr.opcodeClass, Instr.encodeFields]) rfl rfl h
  | atomicXor32 => exact .of_atomicModify _ s t _ _ _ _ _ (by simp [Instr.opcodeClass, Instr.encodeFields]) rfl h
  | atomicFetchXor32 =>
    exact .of_atomicFetch _ s t _ _ _ _ _ (by simp [Instr.opcodeClass, Instr.encodeFields]) rfl rfl h
  | atomicXchg32 => exact .of_atomicFetch _ s t _ _ _ _ _ (by simp [Instr.opcodeClass, Instr.encodeFields]) rfl rfl h
  | atomicCmpxchg32 =>
    exact .of_atomicCompareExchange _ s t _ _ _ _ (by simp [Instr.opcodeClass, Instr.encodeFields]) rfl ⟨_, _, _, .inl rfl⟩ h
  | atomicAdd64 => exact .of_atomicModify _ s t _ _ _ _ _ (by simp [Instr.opcodeClass, Instr.encodeFields]) rfl h
  | atomicFetchAdd64 =>
    exact .of_atomicFetch _ s t _ _ _ _ _ (by simp [Instr.opcodeClass, Instr.encodeFields]) rfl rfl h
  | atomicOr64 => exact .of_atomicModify _ s t _ _ _ _ _ (by simp [Instr.opcodeClass, Instr.encodeFields]) rfl h
  | atomicFetchOr64 =>
    exact .of_atomicFetch _ s t _ _ _ _ _ (by simp [Instr.opcodeClass, Instr.encodeFields]) rfl rfl h
  | atomicAnd64 => exact .of_atomicModify _ s t _ _ _ _ _ (by simp [Instr.opcodeClass, Instr.encodeFields]) rfl h
  | atomicFetchAnd64 =>
    exact .of_atomicFetch _ s t _ _ _ _ _ (by simp [Instr.opcodeClass, Instr.encodeFields]) rfl rfl h
  | atomicXor64 => exact .of_atomicModify _ s t _ _ _ _ _ (by simp [Instr.opcodeClass, Instr.encodeFields]) rfl h
  | atomicFetchXor64 =>
    exact .of_atomicFetch _ s t _ _ _ _ _ (by simp [Instr.opcodeClass, Instr.encodeFields]) rfl rfl h
  | atomicXchg64 => exact .of_atomicFetch _ s t _ _ _ _ _ (by simp [Instr.opcodeClass, Instr.encodeFields]) rfl rfl h
  | atomicCmpxchg64 =>
    exact .of_atomicCompareExchange _ s t _ _ _ _ (by simp [Instr.opcodeClass, Instr.encodeFields]) rfl ⟨_, _, _, .inr rfl⟩ h
  | lddw => exact .of_wideValue _ s t 0 _ _ (by simp [Instr.opcodeClass, Instr.encodeFields]) (by decide) rfl rfl h
  | ldMapFd =>
    exact .of_wideLookup _ s t 0 _ _ _ _ (by simp [Instr.opcodeClass, Instr.encodeFields]) (by decide) rfl rfl h
  | ldMapValFd =>
    exact .of_wideLookup _ s t 0 _ _ _ _ (by simp [Instr.opcodeClass, Instr.encodeFields]) (by decide) rfl rfl h
  | ldVarAddr =>
    exact .of_wideLookup _ s t 0 _ _ _ _ (by simp [Instr.opcodeClass, Instr.encodeFields]) (by decide) rfl rfl h
  | ldCodeAddr =>
    exact .of_wideLookup _ s t 0 _ _ _ _ (by simp [Instr.opcodeClass, Instr.encodeFields]) (by decide) rfl rfl h
  | ldMapIdx =>
    exact .of_wideLookup _ s t 0 _ _ _ _ (by simp [Instr.opcodeClass, Instr.encodeFields]) (by decide) rfl rfl h
  | ldMapValIdx =>
    exact .of_wideLookup _ s t 0 _ _ _ _ (by simp [Instr.opcodeClass, Instr.encodeFields]) (by decide) rfl rfl h
  | ldabsw => cases h
  | ldabsh => cases h
  | ldabsb => cases h
  | ldindw => cases h
  | ldindh => cases h
  | ldindb => cases h

end Sys2Proof.Machine
end

