-- ==== Sys2Proof/Laws/PerInstr.lean ====
section
/-! SUPPORT. Per-instruction statements: the encoding has a second slot exactly where its opcode byte is 0x18
(30_encoding.md R48). -/

namespace Sys2Proof.Laws

/-- The encoding of `i` is wide exactly where its first byte says so (30_encoding.md R48). -/
def EncodedLength.Statement (i : Instr) : Prop :=
  i.encodeFields.2.isSome = isWideOpcode i.encodeFields.1.opcode

theorem EncodedLength.add64Imm (d : Reg) (imm : Word32) : EncodedLength.Statement (.add64Imm d imm) := rfl
theorem EncodedLength.add64Reg (d : Reg) (s : Reg) : EncodedLength.Statement (.add64Reg d s) := rfl
theorem EncodedLength.add32Imm (d : Reg) (imm : Word32) : EncodedLength.Statement (.add32Imm d imm) := rfl
theorem EncodedLength.add32Reg (d : Reg) (s : Reg) : EncodedLength.Statement (.add32Reg d s) := rfl
theorem EncodedLength.sub64Imm (d : Reg) (imm : Word32) : EncodedLength.Statement (.sub64Imm d imm) := rfl
theorem EncodedLength.sub64Reg (d : Reg) (s : Reg) : EncodedLength.Statement (.sub64Reg d s) := rfl
theorem EncodedLength.sub32Imm (d : Reg) (imm : Word32) : EncodedLength.Statement (.sub32Imm d imm) := rfl
theorem EncodedLength.sub32Reg (d : Reg) (s : Reg) : EncodedLength.Statement (.sub32Reg d s) := rfl
theorem EncodedLength.mul64Imm (d : Reg) (imm : Word32) : EncodedLength.Statement (.mul64Imm d imm) := rfl
theorem EncodedLength.mul64Reg (d : Reg) (s : Reg) : EncodedLength.Statement (.mul64Reg d s) := rfl
theorem EncodedLength.mul32Imm (d : Reg) (imm : Word32) : EncodedLength.Statement (.mul32Imm d imm) := rfl
theorem EncodedLength.mul32Reg (d : Reg) (s : Reg) : EncodedLength.Statement (.mul32Reg d s) := rfl
theorem EncodedLength.div64Imm (d : Reg) (imm : Word32) : EncodedLength.Statement (.div64Imm d imm) := rfl
theorem EncodedLength.div64Reg (d : Reg) (s : Reg) : EncodedLength.Statement (.div64Reg d s) := rfl
theorem EncodedLength.div32Imm (d : Reg) (imm : Word32) : EncodedLength.Statement (.div32Imm d imm) := rfl
theorem EncodedLength.div32Reg (d : Reg) (s : Reg) : EncodedLength.Statement (.div32Reg d s) := rfl
theorem EncodedLength.sdiv64Imm (d : Reg) (imm : Word32) : EncodedLength.Statement (.sdiv64Imm d imm) := rfl
theorem EncodedLength.sdiv64Reg (d : Reg) (s : Reg) : EncodedLength.Statement (.sdiv64Reg d s) := rfl
theorem EncodedLength.sdiv32Imm (d : Reg) (imm : Word32) : EncodedLength.Statement (.sdiv32Imm d imm) := rfl
theorem EncodedLength.sdiv32Reg (d : Reg) (s : Reg) : EncodedLength.Statement (.sdiv32Reg d s) := rfl
theorem EncodedLength.or64Imm (d : Reg) (imm : Word32) : EncodedLength.Statement (.or64Imm d imm) := rfl
theorem EncodedLength.or64Reg (d : Reg) (s : Reg) : EncodedLength.Statement (.or64Reg d s) := rfl
theorem EncodedLength.or32Imm (d : Reg) (imm : Word32) : EncodedLength.Statement (.or32Imm d imm) := rfl
theorem EncodedLength.or32Reg (d : Reg) (s : Reg) : EncodedLength.Statement (.or32Reg d s) := rfl
theorem EncodedLength.and64Imm (d : Reg) (imm : Word32) : EncodedLength.Statement (.and64Imm d imm) := rfl
theorem EncodedLength.and64Reg (d : Reg) (s : Reg) : EncodedLength.Statement (.and64Reg d s) := rfl
theorem EncodedLength.and32Imm (d : Reg) (imm : Word32) : EncodedLength.Statement (.and32Imm d imm) := rfl
theorem EncodedLength.and32Reg (d : Reg) (s : Reg) : EncodedLength.Statement (.and32Reg d s) := rfl
theorem EncodedLength.lsh64Imm (d : Reg) (imm : Word32) : EncodedLength.Statement (.lsh64Imm d imm) := rfl
theorem EncodedLength.lsh64Reg (d : Reg) (s : Reg) : EncodedLength.Statement (.lsh64Reg d s) := rfl
theorem EncodedLength.lsh32Imm (d : Reg) (imm : Word32) : EncodedLength.Statement (.lsh32Imm d imm) := rfl
theorem EncodedLength.lsh32Reg (d : Reg) (s : Reg) : EncodedLength.Statement (.lsh32Reg d s) := rfl
theorem EncodedLength.rsh64Imm (d : Reg) (imm : Word32) : EncodedLength.Statement (.rsh64Imm d imm) := rfl
theorem EncodedLength.rsh64Reg (d : Reg) (s : Reg) : EncodedLength.Statement (.rsh64Reg d s) := rfl
theorem EncodedLength.rsh32Imm (d : Reg) (imm : Word32) : EncodedLength.Statement (.rsh32Imm d imm) := rfl
theorem EncodedLength.rsh32Reg (d : Reg) (s : Reg) : EncodedLength.Statement (.rsh32Reg d s) := rfl
theorem EncodedLength.mod64Imm (d : Reg) (imm : Word32) : EncodedLength.Statement (.mod64Imm d imm) := rfl
theorem EncodedLength.mod64Reg (d : Reg) (s : Reg) : EncodedLength.Statement (.mod64Reg d s) := rfl
theorem EncodedLength.mod32Imm (d : Reg) (imm : Word32) : EncodedLength.Statement (.mod32Imm d imm) := rfl
theorem EncodedLength.mod32Reg (d : Reg) (s : Reg) : EncodedLength.Statement (.mod32Reg d s) := rfl
theorem EncodedLength.smod64Imm (d : Reg) (imm : Word32) : EncodedLength.Statement (.smod64Imm d imm) := rfl
theorem EncodedLength.smod64Reg (d : Reg) (s : Reg) : EncodedLength.Statement (.smod64Reg d s) := rfl
theorem EncodedLength.smod32Imm (d : Reg) (imm : Word32) : EncodedLength.Statement (.smod32Imm d imm) := rfl
theorem EncodedLength.smod32Reg (d : Reg) (s : Reg) : EncodedLength.Statement (.smod32Reg d s) := rfl
theorem EncodedLength.xor64Imm (d : Reg) (imm : Word32) : EncodedLength.Statement (.xor64Imm d imm) := rfl
theorem EncodedLength.xor64Reg (d : Reg) (s : Reg) : EncodedLength.Statement (.xor64Reg d s) := rfl
theorem EncodedLength.xor32Imm (d : Reg) (imm : Word32) : EncodedLength.Statement (.xor32Imm d imm) := rfl
theorem EncodedLength.xor32Reg (d : Reg) (s : Reg) : EncodedLength.Statement (.xor32Reg d s) := rfl
theorem EncodedLength.mov64Imm (d : Reg) (imm : Word32) : EncodedLength.Statement (.mov64Imm d imm) := rfl
theorem EncodedLength.mov64Reg (d : Reg) (s : Reg) : EncodedLength.Statement (.mov64Reg d s) := rfl
theorem EncodedLength.mov32Imm (d : Reg) (imm : Word32) : EncodedLength.Statement (.mov32Imm d imm) := rfl
theorem EncodedLength.mov32Reg (d : Reg) (s : Reg) : EncodedLength.Statement (.mov32Reg d s) := rfl
theorem EncodedLength.arsh64Imm (d : Reg) (imm : Word32) : EncodedLength.Statement (.arsh64Imm d imm) := rfl
theorem EncodedLength.arsh64Reg (d : Reg) (s : Reg) : EncodedLength.Statement (.arsh64Reg d s) := rfl
theorem EncodedLength.arsh32Imm (d : Reg) (imm : Word32) : EncodedLength.Statement (.arsh32Imm d imm) := rfl
theorem EncodedLength.arsh32Reg (d : Reg) (s : Reg) : EncodedLength.Statement (.arsh32Reg d s) := rfl
theorem EncodedLength.neg64 (d : Reg) : EncodedLength.Statement (.neg64 d) := rfl
theorem EncodedLength.neg32 (d : Reg) : EncodedLength.Statement (.neg32 d) := rfl
theorem EncodedLength.movsx64From8 (d : Reg) (s : Reg) : EncodedLength.Statement (.movsx64From8 d s) := rfl
theorem EncodedLength.movsx64From16 (d : Reg) (s : Reg) : EncodedLength.Statement (.movsx64From16 d s) := rfl
theorem EncodedLength.movsx64From32 (d : Reg) (s : Reg) : EncodedLength.Statement (.movsx64From32 d s) := rfl
theorem EncodedLength.movsx32From8 (d : Reg) (s : Reg) : EncodedLength.Statement (.movsx32From8 d s) := rfl
theorem EncodedLength.movsx32From16 (d : Reg) (s : Reg) : EncodedLength.Statement (.movsx32From16 d s) := rfl
theorem EncodedLength.le16 (d : Reg) : EncodedLength.Statement (.le16 d) := rfl
theorem EncodedLength.le32 (d : Reg) : EncodedLength.Statement (.le32 d) := rfl
theorem EncodedLength.le64 (d : Reg) : EncodedLength.Statement (.le64 d) := rfl
theorem EncodedLength.be16 (d : Reg) : EncodedLength.Statement (.be16 d) := rfl
theorem EncodedLength.be32 (d : Reg) : EncodedLength.Statement (.be32 d) := rfl
theorem EncodedLength.be64 (d : Reg) : EncodedLength.Statement (.be64 d) := rfl
theorem EncodedLength.bswap16 (d : Reg) : EncodedLength.Statement (.bswap16 d) := rfl
theorem EncodedLength.bswap32 (d : Reg) : EncodedLength.Statement (.bswap32 d) := rfl
theorem EncodedLength.bswap64 (d : Reg) : EncodedLength.Statement (.bswap64 d) := rfl
theorem EncodedLength.ja (off : BitVec 16) : EncodedLength.Statement (.ja off) := rfl
theorem EncodedLength.ja32 (imm : Word32) : EncodedLength.Statement (.ja32 imm) := rfl
theorem EncodedLength.jeq64Imm (d : Reg) (imm : Word32) (off : BitVec 16) : EncodedLength.Statement (.jeq64Imm d imm off) := rfl
theorem EncodedLength.jeq64Reg (d : Reg) (s : Reg) (off : BitVec 16) : EncodedLength.Statement (.jeq64Reg d s off) := rfl
theorem EncodedLength.jeq32Imm (d : Reg) (imm : Word32) (off : BitVec 16) : EncodedLength.Statement (.jeq32Imm d imm off) := rfl
theorem EncodedLength.jeq32Reg (d : Reg) (s : Reg) (off : BitVec 16) : EncodedLength.Statement (.jeq32Reg d s off) := rfl
theorem EncodedLength.jgt64Imm (d : Reg) (imm : Word32) (off : BitVec 16) : EncodedLength.Statement (.jgt64Imm d imm off) := rfl
theorem EncodedLength.jgt64Reg (d : Reg) (s : Reg) (off : BitVec 16) : EncodedLength.Statement (.jgt64Reg d s off) := rfl
theorem EncodedLength.jgt32Imm (d : Reg) (imm : Word32) (off : BitVec 16) : EncodedLength.Statement (.jgt32Imm d imm off) := rfl
theorem EncodedLength.jgt32Reg (d : Reg) (s : Reg) (off : BitVec 16) : EncodedLength.Statement (.jgt32Reg d s off) := rfl
theorem EncodedLength.jge64Imm (d : Reg) (imm : Word32) (off : BitVec 16) : EncodedLength.Statement (.jge64Imm d imm off) := rfl
theorem EncodedLength.jge64Reg (d : Reg) (s : Reg) (off : BitVec 16) : EncodedLength.Statement (.jge64Reg d s off) := rfl
theorem EncodedLength.jge32Imm (d : Reg) (imm : Word32) (off : BitVec 16) : EncodedLength.Statement (.jge32Imm d imm off) := rfl
theorem EncodedLength.jge32Reg (d : Reg) (s : Reg) (off : BitVec 16) : EncodedLength.Statement (.jge32Reg d s off) := rfl
theorem EncodedLength.jset64Imm (d : Reg) (imm : Word32) (off : BitVec 16) : EncodedLength.Statement (.jset64Imm d imm off) := rfl
theorem EncodedLength.jset64Reg (d : Reg) (s : Reg) (off : BitVec 16) : EncodedLength.Statement (.jset64Reg d s off) := rfl
theorem EncodedLength.jset32Imm (d : Reg) (imm : Word32) (off : BitVec 16) : EncodedLength.Statement (.jset32Imm d imm off) := rfl
theorem EncodedLength.jset32Reg (d : Reg) (s : Reg) (off : BitVec 16) : EncodedLength.Statement (.jset32Reg d s off) := rfl
theorem EncodedLength.jne64Imm (d : Reg) (imm : Word32) (off : BitVec 16) : EncodedLength.Statement (.jne64Imm d imm off) := rfl
theorem EncodedLength.jne64Reg (d : Reg) (s : Reg) (off : BitVec 16) : EncodedLength.Statement (.jne64Reg d s off) := rfl
theorem EncodedLength.jne32Imm (d : Reg) (imm : Word32) (off : BitVec 16) : EncodedLength.Statement (.jne32Imm d imm off) := rfl
theorem EncodedLength.jne32Reg (d : Reg) (s : Reg) (off : BitVec 16) : EncodedLength.Statement (.jne32Reg d s off) := rfl
theorem EncodedLength.jsgt64Imm (d : Reg) (imm : Word32) (off : BitVec 16) : EncodedLength.Statement (.jsgt64Imm d imm off) := rfl
theorem EncodedLength.jsgt64Reg (d : Reg) (s : Reg) (off : BitVec 16) : EncodedLength.Statement (.jsgt64Reg d s off) := rfl
theorem EncodedLength.jsgt32Imm (d : Reg) (imm : Word32) (off : BitVec 16) : EncodedLength.Statement (.jsgt32Imm d imm off) := rfl
theorem EncodedLength.jsgt32Reg (d : Reg) (s : Reg) (off : BitVec 16) : EncodedLength.Statement (.jsgt32Reg d s off) := rfl
theorem EncodedLength.jsge64Imm (d : Reg) (imm : Word32) (off : BitVec 16) : EncodedLength.Statement (.jsge64Imm d imm off) := rfl
theorem EncodedLength.jsge64Reg (d : Reg) (s : Reg) (off : BitVec 16) : EncodedLength.Statement (.jsge64Reg d s off) := rfl
theorem EncodedLength.jsge32Imm (d : Reg) (imm : Word32) (off : BitVec 16) : EncodedLength.Statement (.jsge32Imm d imm off) := rfl
theorem EncodedLength.jsge32Reg (d : Reg) (s : Reg) (off : BitVec 16) : EncodedLength.Statement (.jsge32Reg d s off) := rfl
theorem EncodedLength.jlt64Imm (d : Reg) (imm : Word32) (off : BitVec 16) : EncodedLength.Statement (.jlt64Imm d imm off) := rfl
theorem EncodedLength.jlt64Reg (d : Reg) (s : Reg) (off : BitVec 16) : EncodedLength.Statement (.jlt64Reg d s off) := rfl
theorem EncodedLength.jlt32Imm (d : Reg) (imm : Word32) (off : BitVec 16) : EncodedLength.Statement (.jlt32Imm d imm off) := rfl
theorem EncodedLength.jlt32Reg (d : Reg) (s : Reg) (off : BitVec 16) : EncodedLength.Statement (.jlt32Reg d s off) := rfl
theorem EncodedLength.jle64Imm (d : Reg) (imm : Word32) (off : BitVec 16) : EncodedLength.Statement (.jle64Imm d imm off) := rfl
theorem EncodedLength.jle64Reg (d : Reg) (s : Reg) (off : BitVec 16) : EncodedLength.Statement (.jle64Reg d s off) := rfl
theorem EncodedLength.jle32Imm (d : Reg) (imm : Word32) (off : BitVec 16) : EncodedLength.Statement (.jle32Imm d imm off) := rfl
theorem EncodedLength.jle32Reg (d : Reg) (s : Reg) (off : BitVec 16) : EncodedLength.Statement (.jle32Reg d s off) := rfl
theorem EncodedLength.jslt64Imm (d : Reg) (imm : Word32) (off : BitVec 16) : EncodedLength.Statement (.jslt64Imm d imm off) := rfl
theorem EncodedLength.jslt64Reg (d : Reg) (s : Reg) (off : BitVec 16) : EncodedLength.Statement (.jslt64Reg d s off) := rfl
theorem EncodedLength.jslt32Imm (d : Reg) (imm : Word32) (off : BitVec 16) : EncodedLength.Statement (.jslt32Imm d imm off) := rfl
theorem EncodedLength.jslt32Reg (d : Reg) (s : Reg) (off : BitVec 16) : EncodedLength.Statement (.jslt32Reg d s off) := rfl
theorem EncodedLength.jsle64Imm (d : Reg) (imm : Word32) (off : BitVec 16) : EncodedLength.Statement (.jsle64Imm d imm off) := rfl
theorem EncodedLength.jsle64Reg (d : Reg) (s : Reg) (off : BitVec 16) : EncodedLength.Statement (.jsle64Reg d s off) := rfl
theorem EncodedLength.jsle32Imm (d : Reg) (imm : Word32) (off : BitVec 16) : EncodedLength.Statement (.jsle32Imm d imm off) := rfl
theorem EncodedLength.jsle32Reg (d : Reg) (s : Reg) (off : BitVec 16) : EncodedLength.Statement (.jsle32Reg d s off) := rfl
theorem EncodedLength.callHelper (imm : Word32) : EncodedLength.Statement (.callHelper imm) := rfl
theorem EncodedLength.callLocal (imm : Word32) : EncodedLength.Statement (.callLocal imm) := rfl
theorem EncodedLength.callBtf (imm : Word32) : EncodedLength.Statement (.callBtf imm) := rfl
theorem EncodedLength.exit : EncodedLength.Statement (.exit) := rfl
theorem EncodedLength.ldxw (d : Reg) (s : Reg) (off : BitVec 16) : EncodedLength.Statement (.ldxw d s off) := rfl
theorem EncodedLength.ldxh (d : Reg) (s : Reg) (off : BitVec 16) : EncodedLength.Statement (.ldxh d s off) := rfl
theorem EncodedLength.ldxb (d : Reg) (s : Reg) (off : BitVec 16) : EncodedLength.Statement (.ldxb d s off) := rfl
theorem EncodedLength.ldxdw (d : Reg) (s : Reg) (off : BitVec 16) : EncodedLength.Statement (.ldxdw d s off) := rfl
theorem EncodedLength.ldxsw (d : Reg) (s : Reg) (off : BitVec 16) : EncodedLength.Statement (.ldxsw d s off) := rfl
theorem EncodedLength.ldxsh (d : Reg) (s : Reg) (off : BitVec 16) : EncodedLength.Statement (.ldxsh d s off) := rfl
theorem EncodedLength.ldxsb (d : Reg) (s : Reg) (off : BitVec 16) : EncodedLength.Statement (.ldxsb d s off) := rfl
theorem EncodedLength.stw (d : Reg) (off : BitVec 16) (imm : Word32) : EncodedLength.Statement (.stw d off imm) := rfl
theorem EncodedLength.sth (d : Reg) (off : BitVec 16) (imm : Word32) : EncodedLength.Statement (.sth d off imm) := rfl
theorem EncodedLength.stb (d : Reg) (off : BitVec 16) (imm : Word32) : EncodedLength.Statement (.stb d off imm) := rfl
theorem EncodedLength.stdw (d : Reg) (off : BitVec 16) (imm : Word32) : EncodedLength.Statement (.stdw d off imm) := rfl
theorem EncodedLength.stxw (d : Reg) (s : Reg) (off : BitVec 16) : EncodedLength.Statement (.stxw d s off) := rfl
theorem EncodedLength.stxh (d : Reg) (s : Reg) (off : BitVec 16) : EncodedLength.Statement (.stxh d s off) := rfl
theorem EncodedLength.stxb (d : Reg) (s : Reg) (off : BitVec 16) : EncodedLength.Statement (.stxb d s off) := rfl
theorem EncodedLength.stxdw (d : Reg) (s : Reg) (off : BitVec 16) : EncodedLength.Statement (.stxdw d s off) := rfl
theorem EncodedLength.atomicAdd32 (d : Reg) (s : Reg) (off : BitVec 16) : EncodedLength.Statement (.atomicAdd32 d s off) := rfl
theorem EncodedLength.atomicFetchAdd32 (d : Reg) (s : Reg) (off : BitVec 16) : EncodedLength.Statement (.atomicFetchAdd32 d s off) := rfl
theorem EncodedLength.atomicOr32 (d : Reg) (s : Reg) (off : BitVec 16) : EncodedLength.Statement (.atomicOr32 d s off) := rfl
theorem EncodedLength.atomicFetchOr32 (d : Reg) (s : Reg) (off : BitVec 16) : EncodedLength.Statement (.atomicFetchOr32 d s off) := rfl
theorem EncodedLength.atomicAnd32 (d : Reg) (s : Reg) (off : BitVec 16) : EncodedLength.Statement (.atomicAnd32 d s off) := rfl
theorem EncodedLength.atomicFetchAnd32 (d : Reg) (s : Reg) (off : BitVec 16) : EncodedLength.Statement (.atomicFetchAnd32 d s off) := rfl
theorem EncodedLength.atomicXor32 (d : Reg) (s : Reg) (off : BitVec 16) : EncodedLength.Statement (.atomicXor32 d s off) := rfl
theorem EncodedLength.atomicFetchXor32 (d : Reg) (s : Reg) (off : BitVec 16) : EncodedLength.Statement (.atomicFetchXor32 d s off) := rfl
theorem EncodedLength.atomicXchg32 (d : Reg) (s : Reg) (off : BitVec 16) : EncodedLength.Statement (.atomicXchg32 d s off) := rfl
theorem EncodedLength.atomicCmpxchg32 (d : Reg) (s : Reg) (off : BitVec 16) : EncodedLength.Statement (.atomicCmpxchg32 d s off) := rfl
theorem EncodedLength.atomicAdd64 (d : Reg) (s : Reg) (off : BitVec 16) : EncodedLength.Statement (.atomicAdd64 d s off) := rfl
theorem EncodedLength.atomicFetchAdd64 (d : Reg) (s : Reg) (off : BitVec 16) : EncodedLength.Statement (.atomicFetchAdd64 d s off) := rfl
theorem EncodedLength.atomicOr64 (d : Reg) (s : Reg) (off : BitVec 16) : EncodedLength.Statement (.atomicOr64 d s off) := rfl
theorem EncodedLength.atomicFetchOr64 (d : Reg) (s : Reg) (off : BitVec 16) : EncodedLength.Statement (.atomicFetchOr64 d s off) := rfl
theorem EncodedLength.atomicAnd64 (d : Reg) (s : Reg) (off : BitVec 16) : EncodedLength.Statement (.atomicAnd64 d s off) := rfl
theorem EncodedLength.atomicFetchAnd64 (d : Reg) (s : Reg) (off : BitVec 16) : EncodedLength.Statement (.atomicFetchAnd64 d s off) := rfl
theorem EncodedLength.atomicXor64 (d : Reg) (s : Reg) (off : BitVec 16) : EncodedLength.Statement (.atomicXor64 d s off) := rfl
theorem EncodedLength.atomicFetchXor64 (d : Reg) (s : Reg) (off : BitVec 16) : EncodedLength.Statement (.atomicFetchXor64 d s off) := rfl
theorem EncodedLength.atomicXchg64 (d : Reg) (s : Reg) (off : BitVec 16) : EncodedLength.Statement (.atomicXchg64 d s off) := rfl
theorem EncodedLength.atomicCmpxchg64 (d : Reg) (s : Reg) (off : BitVec 16) : EncodedLength.Statement (.atomicCmpxchg64 d s off) := rfl
theorem EncodedLength.lddw (d : Reg) (imm : Word32) (next : Word32) : EncodedLength.Statement (.lddw d imm next) := rfl
theorem EncodedLength.ldMapFd (d : Reg) (imm : Word32) : EncodedLength.Statement (.ldMapFd d imm) := rfl
theorem EncodedLength.ldMapValFd (d : Reg) (imm : Word32) (next : Word32) : EncodedLength.Statement (.ldMapValFd d imm next) := rfl
theorem EncodedLength.ldVarAddr (d : Reg) (imm : Word32) : EncodedLength.Statement (.ldVarAddr d imm) := rfl
theorem EncodedLength.ldCodeAddr (d : Reg) (imm : Word32) : EncodedLength.Statement (.ldCodeAddr d imm) := rfl
theorem EncodedLength.ldMapIdx (d : Reg) (imm : Word32) : EncodedLength.Statement (.ldMapIdx d imm) := rfl
theorem EncodedLength.ldMapValIdx (d : Reg) (imm : Word32) (next : Word32) : EncodedLength.Statement (.ldMapValIdx d imm next) := rfl
theorem EncodedLength.ldabsw (imm : Word32) : EncodedLength.Statement (.ldabsw imm) := rfl
theorem EncodedLength.ldabsh (imm : Word32) : EncodedLength.Statement (.ldabsh imm) := rfl
theorem EncodedLength.ldabsb (imm : Word32) : EncodedLength.Statement (.ldabsb imm) := rfl
theorem EncodedLength.ldindw (s : Reg) (imm : Word32) : EncodedLength.Statement (.ldindw s imm) := rfl
theorem EncodedLength.ldindh (s : Reg) (imm : Word32) : EncodedLength.Statement (.ldindh s imm) := rfl
theorem EncodedLength.ldindb (s : Reg) (imm : Word32) : EncodedLength.Statement (.ldindb s imm) := rfl

end Sys2Proof.Laws
end

