-- ==== Sys2Proof/Tests/Slice0.lean ====
section
/-! SUPPORT. Tests: well-formedness, decoding of words written out in the spec, single steps with the spec's own
numbers, and for every statement with hypotheses a concrete state that meets them. -/

namespace Sys2Proof.Tests

open Sys2Proof.Machine

/-! ## Well-formedness: one ill-formed term for each check (00_scope.md R7) -/

/-- The default parameters without some groups. -/
def without (g : Groups) : Params := { defaultParams with groups := g }

theorem test_wf_base64 : (Instr.add64Imm 1 2).wellFormed (without ⟨false, true, true, true, true⟩) = false := by decide
theorem test_wf_atomic32 : (Instr.atomicAdd32 1 2 0).wellFormed (without ⟨true, false, false, true, true⟩) = false := by
  decide
theorem test_wf_atomic64 : (Instr.atomicAdd64 1 2 0).wellFormed (without ⟨true, true, false, true, true⟩) = false := by
  decide
theorem test_wf_divmul32 : (Instr.mul32Imm 1 2).wellFormed (without ⟨true, true, true, false, false⟩) = false := by
  decide
theorem test_wf_divmul64 : (Instr.mul64Imm 1 2).wellFormed (without ⟨true, true, true, true, false⟩) = false := by
  decide
theorem test_wf_packet : (Instr.ldabsw 14).wellFormed defaultParams = false := by decide
/-- `base32` is always supported; the 64-bit groups include the 32-bit ones. -/
theorem test_wf_included : (Instr.add32Imm 1 2).wellFormed (without ⟨false, false, false, false, false⟩) = true ∧
    (Instr.atomicAdd32 1 2 0).wellFormed (without ⟨true, false, true, true, true⟩) = true ∧
    (Instr.mul32Imm 1 2).wellFormed (without ⟨true, true, true, false, true⟩) = true := by decide

/-! ## Decoding: words written out in the spec (the examples of 40 to 46), one for every constructor -/

/-- 40_alu.md, class ALU64. -/
theorem test_decode_alu64_1 : ∀ p ∈ ([
    (⟨0x07, 0x01, 0, 0, 0x02, 0, 0, 0⟩, .add64Imm 1 2),
    (⟨0x0f, 0x21, 0, 0, 0, 0, 0, 0⟩, .add64Reg 1 2),
    (⟨0x17, 0x01, 0, 0, 0x02, 0, 0, 0⟩, .sub64Imm 1 2),
    (⟨0x1f, 0x21, 0, 0, 0, 0, 0, 0⟩, .sub64Reg 1 2),
    (⟨0x27, 0x01, 0, 0, 0xff, 0xff, 0xff, 0xff⟩, .mul64Imm 1 0xffffffff),
    (⟨0x2f, 0x21, 0, 0, 0, 0, 0, 0⟩, .mul64Reg 1 2),
    (⟨0x37, 0x01, 0, 0, 0x03, 0, 0, 0⟩, .div64Imm 1 3),
    (⟨0x3f, 0x21, 0, 0, 0, 0, 0, 0⟩, .div64Reg 1 2),
    (⟨0x37, 0x01, 0x01, 0, 0x02, 0, 0, 0⟩, .sdiv64Imm 1 2),
    (⟨0x3f, 0x21, 0x01, 0, 0, 0, 0, 0⟩, .sdiv64Reg 1 2),
    (⟨0x47, 0x01, 0, 0, 0, 0xff, 0xff, 0xff⟩, .or64Imm 1 0xffffff00),
    (⟨0x4f, 0x21, 0, 0, 0, 0, 0, 0⟩, .or64Reg 1 2),
    (⟨0x57, 0x01, 0, 0, 0, 0xff, 0xff, 0xff⟩, .and64Imm 1 0xffffff00),
    (⟨0x5f, 0x21, 0, 0, 0, 0, 0, 0⟩, .and64Reg 1 2),
    (⟨0x67, 0x01, 0, 0, 0x21, 0, 0, 0⟩, .lsh64Imm 1 0x21),
    (⟨0x6f, 0x21, 0, 0, 0, 0, 0, 0⟩, .lsh64Reg 1 2),
    (⟨0x77, 0x01, 0, 0, 0x21, 0, 0, 0⟩, .rsh64Imm 1 0x21),
    (⟨0x7f, 0x21, 0, 0, 0, 0, 0, 0⟩, .rsh64Reg 1 2),
    (⟨0x97, 0x01, 0, 0, 0x03, 0, 0, 0⟩, .mod64Imm 1 3),
    (⟨0x9f, 0x21, 0, 0, 0, 0, 0, 0⟩, .mod64Reg 1 2),
    (⟨0x97, 0x01, 0x01, 0, 0x03, 0, 0, 0⟩, .smod64Imm 1 3),
    (⟨0x9f, 0x21, 0x01, 0, 0, 0, 0, 0⟩, .smod64Reg 1 2),
    (⟨0xa7, 0x01, 0, 0, 0xff, 0xff, 0xff, 0xff⟩, .xor64Imm 1 0xffffffff),
    (⟨0xaf, 0x21, 0, 0, 0, 0, 0, 0⟩, .xor64Reg 1 2)] : List (Slot × Instr)),
    decode .little true p.1 none = .ok p.2 := by decide

/-- 40_alu.md, class ALU64. -/
theorem test_decode_alu64_2 : ∀ p ∈ ([
    (⟨0xb7, 0x01, 0, 0, 0xfe, 0xff, 0xff, 0xff⟩, .mov64Imm 1 0xfffffffe),
    (⟨0xbf, 0x21, 0, 0, 0, 0, 0, 0⟩, .mov64Reg 1 2),
    (⟨0xc7, 0x01, 0, 0, 0x21, 0, 0, 0⟩, .arsh64Imm 1 0x21),
    (⟨0xcf, 0x21, 0, 0, 0, 0, 0, 0⟩, .arsh64Reg 1 2),
    (⟨0x87, 0x01, 0, 0, 0, 0, 0, 0⟩, .neg64 1),
    (⟨0xbf, 0x21, 0x08, 0, 0, 0, 0, 0⟩, .movsx64From8 1 2),
    (⟨0xbf, 0x21, 0x10, 0, 0, 0, 0, 0⟩, .movsx64From16 1 2),
    (⟨0xbf, 0x21, 0x20, 0, 0, 0, 0, 0⟩, .movsx64From32 1 2)] : List (Slot × Instr)),
    decode .little true p.1 none = .ok p.2 := by decide

/-- 40_alu.md, class ALU. -/
theorem test_decode_alu32_1 : ∀ p ∈ ([
    (⟨0x04, 0x01, 0, 0, 0x02, 0, 0, 0⟩, .add32Imm 1 2),
    (⟨0x0c, 0x21, 0, 0, 0, 0, 0, 0⟩, .add32Reg 1 2),
    (⟨0x14, 0x01, 0, 0, 0x02, 0, 0, 0⟩, .sub32Imm 1 2),
    (⟨0x1c, 0x21, 0, 0, 0, 0, 0, 0⟩, .sub32Reg 1 2),
    (⟨0x24, 0x01, 0, 0, 0xff, 0xff, 0xff, 0xff⟩, .mul32Imm 1 0xffffffff),
    (⟨0x2c, 0x21, 0, 0, 0, 0, 0, 0⟩, .mul32Reg 1 2),
    (⟨0x34, 0x01, 0, 0, 0x03, 0, 0, 0⟩, .div32Imm 1 3),
    (⟨0x3c, 0x21, 0, 0, 0, 0, 0, 0⟩, .div32Reg 1 2),
    (⟨0x34, 0x01, 0x01, 0, 0x02, 0, 0, 0⟩, .sdiv32Imm 1 2),
    (⟨0x3c, 0x21, 0x01, 0, 0, 0, 0, 0⟩, .sdiv32Reg 1 2),
    (⟨0x44, 0x01, 0, 0, 0, 0xff, 0xff, 0xff⟩, .or32Imm 1 0xffffff00),
    (⟨0x4c, 0x21, 0, 0, 0, 0, 0, 0⟩, .or32Reg 1 2),
    (⟨0x54, 0x01, 0, 0, 0, 0xff, 0xff, 0xff⟩, .and32Imm 1 0xffffff00),
    (⟨0x5c, 0x21, 0, 0, 0, 0, 0, 0⟩, .and32Reg 1 2),
    (⟨0x64, 0x01, 0, 0, 0x21, 0, 0, 0⟩, .lsh32Imm 1 0x21),
    (⟨0x6c, 0x21, 0, 0, 0, 0, 0, 0⟩, .lsh32Reg 1 2),
    (⟨0x74, 0x01, 0, 0, 0x21, 0, 0, 0⟩, .rsh32Imm 1 0x21),
    (⟨0x7c, 0x21, 0, 0, 0, 0, 0, 0⟩, .rsh32Reg 1 2),
    (⟨0x94, 0x01, 0, 0, 0x03, 0, 0, 0⟩, .mod32Imm 1 3),
    (⟨0x9c, 0x21, 0, 0, 0, 0, 0, 0⟩, .mod32Reg 1 2),
    (⟨0x94, 0x01, 0x01, 0, 0x03, 0, 0, 0⟩, .smod32Imm 1 3),
    (⟨0x9c, 0x21, 0x01, 0, 0, 0, 0, 0⟩, .smod32Reg 1 2),
    (⟨0xa4, 0x01, 0, 0, 0xff, 0xff, 0xff, 0xff⟩, .xor32Imm 1 0xffffffff),
    (⟨0xac, 0x21, 0, 0, 0, 0, 0, 0⟩, .xor32Reg 1 2)] : List (Slot × Instr)),
    decode .little true p.1 none = .ok p.2 := by decide

/-- 40_alu.md, class ALU. -/
theorem test_decode_alu32_2 : ∀ p ∈ ([
    (⟨0xb4, 0x01, 0, 0, 0xfe, 0xff, 0xff, 0xff⟩, .mov32Imm 1 0xfffffffe),
    (⟨0xbc, 0x21, 0, 0, 0, 0, 0, 0⟩, .mov32Reg 1 2),
    (⟨0xc4, 0x01, 0, 0, 0x21, 0, 0, 0⟩, .arsh32Imm 1 0x21),
    (⟨0xcc, 0x21, 0, 0, 0, 0, 0, 0⟩, .arsh32Reg 1 2),
    (⟨0x84, 0x01, 0, 0, 0, 0, 0, 0⟩, .neg32 1),
    (⟨0xbc, 0x21, 0x08, 0, 0, 0, 0, 0⟩, .movsx32From8 1 2),
    (⟨0xbc, 0x21, 0x10, 0, 0, 0, 0, 0⟩, .movsx32From16 1 2)] : List (Slot × Instr)),
    decode .little true p.1 none = .ok p.2 := by decide

/-- 41_byteswap.md. -/
theorem test_decode_byte_swap : ∀ p ∈ ([
    (⟨0xd4, 0x01, 0, 0, 0x10, 0, 0, 0⟩, .le16 1),
    (⟨0xd4, 0x01, 0, 0, 0x20, 0, 0, 0⟩, .le32 1),
    (⟨0xd4, 0x01, 0, 0, 0x40, 0, 0, 0⟩, .le64 1),
    (⟨0xdc, 0x01, 0, 0, 0x10, 0, 0, 0⟩, .be16 1),
    (⟨0xdc, 0x01, 0, 0, 0x20, 0, 0, 0⟩, .be32 1),
    (⟨0xdc, 0x01, 0, 0, 0x40, 0, 0, 0⟩, .be64 1),
    (⟨0xd7, 0x01, 0, 0, 0x10, 0, 0, 0⟩, .bswap16 1),
    (⟨0xd7, 0x01, 0, 0, 0x20, 0, 0, 0⟩, .bswap32 1),
    (⟨0xd7, 0x01, 0, 0, 0x40, 0, 0, 0⟩, .bswap64 1)] : List (Slot × Instr)),
    decode .little true p.1 none = .ok p.2 := by decide

/-- 42_jump.md, class JMP. -/
theorem test_decode_jump64 : ∀ p ∈ ([
    (⟨0x05, 0, 0x02, 0, 0, 0, 0, 0⟩, .ja 2),
    (⟨0x15, 0x01, 0x03, 0, 0x01, 0, 0, 0⟩, .jeq64Imm 1 1 3),
    (⟨0x1d, 0x21, 0x03, 0, 0, 0, 0, 0⟩, .jeq64Reg 1 2 3),
    (⟨0x25, 0x01, 0x03, 0, 0x01, 0, 0, 0⟩, .jgt64Imm 1 1 3),
    (⟨0x2d, 0x21, 0x03, 0, 0, 0, 0, 0⟩, .jgt64Reg 1 2 3),
    (⟨0x35, 0x01, 0x03, 0, 0x01, 0, 0, 0⟩, .jge64Imm 1 1 3),
    (⟨0x3d, 0x21, 0x03, 0, 0, 0, 0, 0⟩, .jge64Reg 1 2 3),
    (⟨0x45, 0x01, 0x03, 0, 0xff, 0xff, 0xff, 0xff⟩, .jset64Imm 1 0xffffffff 3),
    (⟨0x4d, 0x21, 0x03, 0, 0, 0, 0, 0⟩, .jset64Reg 1 2 3),
    (⟨0x55, 0x01, 0x03, 0, 0x01, 0, 0, 0⟩, .jne64Imm 1 1 3),
    (⟨0x5d, 0x21, 0x03, 0, 0, 0, 0, 0⟩, .jne64Reg 1 2 3),
    (⟨0x65, 0x01, 0x03, 0, 0x01, 0, 0, 0⟩, .jsgt64Imm 1 1 3),
    (⟨0x6d, 0x21, 0x03, 0, 0, 0, 0, 0⟩, .jsgt64Reg 1 2 3),
    (⟨0x75, 0x01, 0x03, 0, 0x01, 0, 0, 0⟩, .jsge64Imm 1 1 3),
    (⟨0x7d, 0x21, 0x03, 0, 0, 0, 0, 0⟩, .jsge64Reg 1 2 3),
    (⟨0xa5, 0x01, 0x03, 0, 0x01, 0, 0, 0⟩, .jlt64Imm 1 1 3),
    (⟨0xad, 0x21, 0x03, 0, 0, 0, 0, 0⟩, .jlt64Reg 1 2 3),
    (⟨0xb5, 0x01, 0x03, 0, 0x01, 0, 0, 0⟩, .jle64Imm 1 1 3),
    (⟨0xbd, 0x21, 0x03, 0, 0, 0, 0, 0⟩, .jle64Reg 1 2 3),
    (⟨0xc5, 0x01, 0x03, 0, 0x01, 0, 0, 0⟩, .jslt64Imm 1 1 3),
    (⟨0xcd, 0x21, 0x03, 0, 0, 0, 0, 0⟩, .jslt64Reg 1 2 3),
    (⟨0xd5, 0x01, 0x03, 0, 0x01, 0, 0, 0⟩, .jsle64Imm 1 1 3),
    (⟨0xdd, 0x21, 0x03, 0, 0, 0, 0, 0⟩, .jsle64Reg 1 2 3)] : List (Slot × Instr)),
    decode .little true p.1 none = .ok p.2 := by decide

/-- 42_jump.md, class JMP32. -/
theorem test_decode_jump32 : ∀ p ∈ ([
    (⟨0x06, 0, 0, 0, 0x02, 0, 0, 0⟩, .ja32 2),
    (⟨0x16, 0x01, 0x03, 0, 0x01, 0, 0, 0⟩, .jeq32Imm 1 1 3),
    (⟨0x1e, 0x21, 0x03, 0, 0, 0, 0, 0⟩, .jeq32Reg 1 2 3),
    (⟨0x26, 0x01, 0x03, 0, 0x01, 0, 0, 0⟩, .jgt32Imm 1 1 3),
    (⟨0x2e, 0x21, 0x03, 0, 0, 0, 0, 0⟩, .jgt32Reg 1 2 3),
    (⟨0x36, 0x01, 0x03, 0, 0x01, 0, 0, 0⟩, .jge32Imm 1 1 3),
    (⟨0x3e, 0x21, 0x03, 0, 0, 0, 0, 0⟩, .jge32Reg 1 2 3),
    (⟨0x46, 0x01, 0x03, 0, 0xff, 0xff, 0xff, 0xff⟩, .jset32Imm 1 0xffffffff 3),
    (⟨0x4e, 0x21, 0x03, 0, 0, 0, 0, 0⟩, .jset32Reg 1 2 3),
    (⟨0x56, 0x01, 0x03, 0, 0x01, 0, 0, 0⟩, .jne32Imm 1 1 3),
    (⟨0x5e, 0x21, 0x03, 0, 0, 0, 0, 0⟩, .jne32Reg 1 2 3),
    (⟨0x66, 0x01, 0x03, 0, 0x01, 0, 0, 0⟩, .jsgt32Imm 1 1 3),
    (⟨0x6e, 0x21, 0x03, 0, 0, 0, 0, 0⟩, .jsgt32Reg 1 2 3),
    (⟨0x76, 0x01, 0x03, 0, 0x01, 0, 0, 0⟩, .jsge32Imm 1 1 3),
    (⟨0x7e, 0x21, 0x03, 0, 0, 0, 0, 0⟩, .jsge32Reg 1 2 3),
    (⟨0xa6, 0x01, 0x03, 0, 0x01, 0, 0, 0⟩, .jlt32Imm 1 1 3),
    (⟨0xae, 0x21, 0x03, 0, 0, 0, 0, 0⟩, .jlt32Reg 1 2 3),
    (⟨0xb6, 0x01, 0x03, 0, 0x01, 0, 0, 0⟩, .jle32Imm 1 1 3),
    (⟨0xbe, 0x21, 0x03, 0, 0, 0, 0, 0⟩, .jle32Reg 1 2 3),
    (⟨0xc6, 0x01, 0x03, 0, 0x01, 0, 0, 0⟩, .jslt32Imm 1 1 3),
    (⟨0xce, 0x21, 0x03, 0, 0, 0, 0, 0⟩, .jslt32Reg 1 2 3),
    (⟨0xd6, 0x01, 0x03, 0, 0x01, 0, 0, 0⟩, .jsle32Imm 1 1 3),
    (⟨0xde, 0x21, 0x03, 0, 0, 0, 0, 0⟩, .jsle32Reg 1 2 3)] : List (Slot × Instr)),
    decode .little true p.1 none = .ok p.2 := by decide

/-- 42_jump.md, calls and exit. -/
theorem test_decode_call : ∀ p ∈ ([
    (⟨0x85, 0, 0, 0, 0x07, 0, 0, 0⟩, .callHelper 7),
    (⟨0x85, 0x10, 0, 0, 0x02, 0, 0, 0⟩, .callLocal 2),
    (⟨0x85, 0x20, 0, 0, 0x09, 0, 0, 0⟩, .callBtf 9),
    (⟨0x95, 0, 0, 0, 0, 0, 0, 0⟩, .exit)] : List (Slot × Instr)),
    decode .little true p.1 none = .ok p.2 := by decide

/-- 43_load_store.md, loads. -/
theorem test_decode_load : ∀ p ∈ ([
    (⟨0x61, 0xa1, 0xf8, 0xff, 0, 0, 0, 0⟩, .ldxw 1 10 0xfff8),
    (⟨0x69, 0xa1, 0xf8, 0xff, 0, 0, 0, 0⟩, .ldxh 1 10 0xfff8),
    (⟨0x71, 0xa1, 0xf8, 0xff, 0, 0, 0, 0⟩, .ldxb 1 10 0xfff8),
    (⟨0x79, 0xa1, 0xf8, 0xff, 0, 0, 0, 0⟩, .ldxdw 1 10 0xfff8),
    (⟨0x81, 0xa1, 0xf8, 0xff, 0, 0, 0, 0⟩, .ldxsw 1 10 0xfff8),
    (⟨0x89, 0xa1, 0xf8, 0xff, 0, 0, 0, 0⟩, .ldxsh 1 10 0xfff8),
    (⟨0x91, 0xa1, 0xf8, 0xff, 0, 0, 0, 0⟩, .ldxsb 1 10 0xfff8)] : List (Slot × Instr)),
    decode .little true p.1 none = .ok p.2 := by decide

/-- 43_load_store.md, stores. -/
theorem test_decode_store : ∀ p ∈ ([
    (⟨0x62, 0x0a, 0xf8, 0xff, 0xfe, 0xff, 0xff, 0xff⟩, .stw 10 0xfff8 0xfffffffe),
    (⟨0x6a, 0x0a, 0xf8, 0xff, 0xfe, 0xff, 0xff, 0xff⟩, .sth 10 0xfff8 0xfffffffe),
    (⟨0x72, 0x0a, 0xf8, 0xff, 0xfe, 0xff, 0xff, 0xff⟩, .stb 10 0xfff8 0xfffffffe),
    (⟨0x7a, 0x0a, 0xf8, 0xff, 0xfe, 0xff, 0xff, 0xff⟩, .stdw 10 0xfff8 0xfffffffe),
    (⟨0x63, 0x1a, 0xf8, 0xff, 0, 0, 0, 0⟩, .stxw 10 1 0xfff8),
    (⟨0x6b, 0x1a, 0xf8, 0xff, 0, 0, 0, 0⟩, .stxh 10 1 0xfff8),
    (⟨0x73, 0x1a, 0xf8, 0xff, 0, 0, 0, 0⟩, .stxb 10 1 0xfff8),
    (⟨0x7b, 0x1a, 0xf8, 0xff, 0, 0, 0, 0⟩, .stxdw 10 1 0xfff8)] : List (Slot × Instr)),
    decode .little true p.1 none = .ok p.2 := by decide

/-- 44_atomic.md, 32-bit. -/
theorem test_decode_atomic32 : ∀ p ∈ ([
    (⟨0xc3, 0x1a, 0xf8, 0xff, 0, 0, 0, 0⟩, .atomicAdd32 10 1 0xfff8),
    (⟨0xc3, 0x1a, 0xf8, 0xff, 0x01, 0, 0, 0⟩, .atomicFetchAdd32 10 1 0xfff8),
    (⟨0xc3, 0x1a, 0xf8, 0xff, 0x40, 0, 0, 0⟩, .atomicOr32 10 1 0xfff8),
    (⟨0xc3, 0x1a, 0xf8, 0xff, 0x41, 0, 0, 0⟩, .atomicFetchOr32 10 1 0xfff8),
    (⟨0xc3, 0x1a, 0xf8, 0xff, 0x50, 0, 0, 0⟩, .atomicAnd32 10 1 0xfff8),
    (⟨0xc3, 0x1a, 0xf8, 0xff, 0x51, 0, 0, 0⟩, .atomicFetchAnd32 10 1 0xfff8),
    (⟨0xc3, 0x1a, 0xf8, 0xff, 0xa0, 0, 0, 0⟩, .atomicXor32 10 1 0xfff8),
    (⟨0xc3, 0x1a, 0xf8, 0xff, 0xa1, 0, 0, 0⟩, .atomicFetchXor32 10 1 0xfff8),
    (⟨0xc3, 0x1a, 0xf8, 0xff, 0xe1, 0, 0, 0⟩, .atomicXchg32 10 1 0xfff8),
    (⟨0xc3, 0x1a, 0xf8, 0xff, 0xf1, 0, 0, 0⟩, .atomicCmpxchg32 10 1 0xfff8)] : List (Slot × Instr)),
    decode .little true p.1 none = .ok p.2 := by decide

/-- 44_atomic.md, 64-bit. -/
theorem test_decode_atomic64 : ∀ p ∈ ([
    (⟨0xdb, 0x1a, 0xf8, 0xff, 0, 0, 0, 0⟩, .atomicAdd64 10 1 0xfff8),
    (⟨0xdb, 0x1a, 0xf8, 0xff, 0x01, 0, 0, 0⟩, .atomicFetchAdd64 10 1 0xfff8),
    (⟨0xdb, 0x1a, 0xf8, 0xff, 0x40, 0, 0, 0⟩, .atomicOr64 10 1 0xfff8),
    (⟨0xdb, 0x1a, 0xf8, 0xff, 0x41, 0, 0, 0⟩, .atomicFetchOr64 10 1 0xfff8),
    (⟨0xdb, 0x1a, 0xf8, 0xff, 0x50, 0, 0, 0⟩, .atomicAnd64 10 1 0xfff8),
    (⟨0xdb, 0x1a, 0xf8, 0xff, 0x51, 0, 0, 0⟩, .atomicFetchAnd64 10 1 0xfff8),
    (⟨0xdb, 0x1a, 0xf8, 0xff, 0xa0, 0, 0, 0⟩, .atomicXor64 10 1 0xfff8),
    (⟨0xdb, 0x1a, 0xf8, 0xff, 0xa1, 0, 0, 0⟩, .atomicFetchXor64 10 1 0xfff8),
    (⟨0xdb, 0x1a, 0xf8, 0xff, 0xe1, 0, 0, 0⟩, .atomicXchg64 10 1 0xfff8),
    (⟨0xdb, 0x1a, 0xf8, 0xff, 0xf1, 0, 0, 0⟩, .atomicCmpxchg64 10 1 0xfff8)] : List (Slot × Instr)),
    decode .little true p.1 none = .ok p.2 := by decide

/-- 45_imm64.md: both slots. -/
theorem test_decode_imm64 : ∀ p ∈ ([
    (⟨0x18, 0x01, 0, 0, 0x88, 0x77, 0x66, 0x55⟩, ⟨0, 0, 0, 0, 0x44, 0x33, 0x22, 0x11⟩, .lddw 1 0x55667788 0x11223344),
    (⟨0x18, 0x11, 0, 0, 0x03, 0, 0, 0⟩, ⟨0, 0, 0, 0, 0, 0, 0, 0⟩, .ldMapFd 1 3),
    (⟨0x18, 0x21, 0, 0, 0x03, 0, 0, 0⟩, ⟨0, 0, 0, 0, 0x10, 0, 0, 0⟩, .ldMapValFd 1 3 0x10),
    (⟨0x18, 0x31, 0, 0, 0x05, 0, 0, 0⟩, ⟨0, 0, 0, 0, 0, 0, 0, 0⟩, .ldVarAddr 1 5),
    (⟨0x18, 0x41, 0, 0, 0x02, 0, 0, 0⟩, ⟨0, 0, 0, 0, 0, 0, 0, 0⟩, .ldCodeAddr 1 2),
    (⟨0x18, 0x51, 0, 0, 0, 0, 0, 0⟩, ⟨0, 0, 0, 0, 0, 0, 0, 0⟩, .ldMapIdx 1 0),
    (⟨0x18, 0x61, 0, 0, 0, 0, 0, 0⟩, ⟨0, 0, 0, 0, 0x10, 0, 0, 0⟩, .ldMapValIdx 1 0 0x10)] : List (Slot × Slot × Instr)),
    decode .little true p.1 (some p.2.1) = .ok p.2.2 := by decide

/-- 46_legacy_packet.md. -/
theorem test_decode_packet : ∀ p ∈ ([
    (⟨0x20, 0, 0, 0, 0x0e, 0, 0, 0⟩, .ldabsw 0xe),
    (⟨0x28, 0, 0, 0, 0x0c, 0, 0, 0⟩, .ldabsh 0xc),
    (⟨0x30, 0, 0, 0, 0x17, 0, 0, 0⟩, .ldabsb 0x17),
    (⟨0x40, 0x60, 0, 0, 0x0e, 0, 0, 0⟩, .ldindw 6 0xe),
    (⟨0x48, 0x70, 0, 0, 0x0c, 0, 0, 0⟩, .ldindh 7 0xc),
    (⟨0x50, 0x80, 0, 0, 0x17, 0, 0, 0⟩, .ldindb 8 0x17)] : List (Slot × Instr)),
    decode .little true p.1 none = .ok p.2 := by decide

/-- One word of each basic format on a big-endian host (30_encoding.md R49, R50). -/
theorem test_decode_big_endian : ∀ p ∈ ([
    (⟨0x07, 0x10, 0, 0, 0, 0, 0, 0x02⟩, .add64Imm 1 2),
    (⟨0x0f, 0x12, 0, 0, 0, 0, 0, 0⟩, .add64Reg 1 2),
    (⟨0x87, 0x10, 0, 0, 0, 0, 0, 0⟩, .neg64 1),
    (⟨0xd4, 0x10, 0, 0, 0, 0, 0, 0x10⟩, .le16 1),
    (⟨0x05, 0, 0, 0x02, 0, 0, 0, 0⟩, .ja 2),
    (⟨0x15, 0x10, 0, 0x03, 0, 0, 0, 0x01⟩, .jeq64Imm 1 1 3),
    (⟨0x1d, 0x12, 0, 0x03, 0, 0, 0, 0⟩, .jeq64Reg 1 2 3),
    (⟨0x06, 0, 0, 0, 0, 0, 0, 0x02⟩, .ja32 2),
    (⟨0x85, 0, 0, 0, 0, 0, 0, 0x07⟩, .callHelper 7),
    (⟨0x95, 0, 0, 0, 0, 0, 0, 0⟩, .exit),
    (⟨0x61, 0x1a, 0xff, 0xf8, 0, 0, 0, 0⟩, .ldxw 1 10 0xfff8),
    (⟨0x62, 0xa0, 0xff, 0xf8, 0xff, 0xff, 0xff, 0xfe⟩, .stw 10 0xfff8 0xfffffffe),
    (⟨0x63, 0xa1, 0xff, 0xf8, 0, 0, 0, 0⟩, .stxw 10 1 0xfff8),
    (⟨0xc3, 0xa1, 0xff, 0xf8, 0, 0, 0, 0⟩, .atomicAdd32 10 1 0xfff8),
    (⟨0x20, 0, 0, 0, 0, 0, 0, 0x0e⟩, .ldabsw 0xe),
    (⟨0x40, 0x06, 0, 0, 0, 0, 0, 0x0e⟩, .ldindw 6 0xe)] : List (Slot × Instr)),
    decode .big true p.1 none = .ok p.2 := by decide

/-- Second slots, register numbers, selectors and reserved fields that are refused, each by its name
(30_encoding.md R61 to R66). -/
theorem test_decode_refused :
    decode .little true ⟨0x8f, 0, 0, 0, 0, 0, 0, 0⟩ none = .error .undefinedOpcode ∧
    decode .little true ⟨0x37, 0x01, 0x02, 0, 0x02, 0, 0, 0⟩ none = .error .undefinedSelector ∧
    decode .little true ⟨0xd4, 0x01, 0, 0, 0x08, 0, 0, 0⟩ none = .error .undefinedSelector ∧
    decode .little true ⟨0x85, 0x30, 0, 0, 0, 0, 0, 0⟩ none = .error .undefinedSelector ∧
    decode .little true ⟨0x18, 0x71, 0, 0, 0, 0, 0, 0⟩ (some Slot.zero) = .error .undefinedSelector ∧
    decode .little true ⟨0x18, 0x01, 0, 0, 0, 0, 0, 0⟩ none = .error .cutOff ∧
    decode .little true ⟨0x07, 0x0b, 0, 0, 0, 0, 0, 0⟩ none = .error .badRegister ∧
    decode .little true ⟨0x0f, 0xb1, 0, 0, 0, 0, 0, 0⟩ none = .error .badRegister ∧
    decode .little true ⟨0x07, 0x11, 0, 0, 0, 0, 0, 0⟩ none = .error .reservedField ∧
    decode .little true ⟨0x18, 0x01, 0, 0, 0, 0, 0, 0⟩ (some ⟨0, 0x01, 0, 0, 0, 0, 0, 0⟩) = .error .reservedField ∧
    decode .little true ⟨0x18, 0x11, 0, 0, 0x03, 0, 0, 0⟩ (some ⟨0, 0, 0, 0, 0x01, 0, 0, 0⟩) =
      .error .reservedField ∧
    decode .little false ⟨0x07, 0x11, 0, 0, 0x05, 0, 0, 0⟩ none = .ok (.add64Imm 1 5) := by decide

/-- The table's bit numbering: the second slot stands in bits 127..64. -/
theorem test_decodeTableWord : decodeTableWord 128 0x11223344000000005566778800000118 =
    some (.lddw 1 0x55667788 0x11223344) ∧ decodeTableWord 64 0x1122334400000107 = some (.add64Imm 1 0x11223344) ∧
    decodeTableWord 64 0x8f = none := by decide

/-! ## A small state -/

/-- `mov64_imm r0, 0`, a slot that only fills a program. -/
def filler : Slot := ⟨0xb7, 0, 0, 0, 0, 0, 0, 0⟩

/-- The memory of the vectors of 95_test_vectors.md: 0x1000 to 0x1fff, private. -/
def vectorParams : Params := { defaultParams with admissions := admitRegion 0x1000 0x1000 true true true }

/-- The bytes at the top of the stack that most examples of 43 and 44 start from. -/
def stackTop : List (Nat × Byte) :=
  [(0x1ff8, 0x88), (0x1ff9, 0x99), (0x1ffa, 0xaa), (0x1ffb, 0xbb), (0x1ffc, 0xcc), (0x1ffd, 0xdd), (0x1ffe, 0xee),
    (0x1fff, 0xff)]

/-- A vector: slots from `pc` on, the registers that are written, bytes of memory, `pc`; then what changed. -/
structure Example where
  slots : List Slot
  regs : List (Nat × Word)
  bytes : List (Nat × Byte)
  pc : Nat
  endRegs : List (Reg × Word)
  endBytes : List (Nat × Byte)
  endPc : Nat

/-- The start state of a vector. -/
def Example.start (x : Example) : State :=
  { State.entry vectorParams [] [] (List.replicate x.pc filler ++ x.slots ++ List.replicate 5 filler)
      (Vector.ofFn fun r => x.regs.lookup r.val) (x.bytes.foldl (fun m p => Memory.set m p.1 p.2) []) [] [] [] with
    pc := x.pc }

/-- Whether one step ends as the vector says. -/
def Example.holds (x : Example) : Bool :=
  match step x.start with
  | .next t => (x.endRegs.all fun p => t.reg p.1 == some p.2) && (x.endBytes.all fun p => t.readByte p.1 == p.2) &&
      t.pc == x.endPc
  | .fault _ | .refused _ => false

/-! ## Execution: the examples of 40 to 45 and vectors of 95_test_vectors.md, one step each -/

/-- 40_alu.md, class ALU64 (R80 to R109). -/
theorem test_step_alu64_1 : ([
    ⟨[⟨0x07, 0x01, 0, 0, 0x02, 0, 0, 0⟩], [(1, 0xffffffffffffffff)], [], 0,
      [(1, 1)], [], 1⟩,
    ⟨[⟨0x0f, 0x21, 0, 0, 0, 0, 0, 0⟩], [(1, 0xffffffffffffffff), (2, 2)], [], 0,
      [(1, 1)], [], 1⟩,
    ⟨[⟨0x17, 0x01, 0, 0, 0x02, 0, 0, 0⟩], [(1, 1)], [], 0,
      [(1, 0xffffffffffffffff)], [], 1⟩,
    ⟨[⟨0x1f, 0x21, 0, 0, 0, 0, 0, 0⟩], [(1, 1), (2, 2)], [], 0,
      [(1, 0xffffffffffffffff)], [], 1⟩,
    ⟨[⟨0x27, 0x01, 0, 0, 0xff, 0xff, 0xff, 0xff⟩], [(1, 0x100000003)], [], 0,
      [(1, 0xfffffffefffffffd)], [], 1⟩,
    ⟨[⟨0x2f, 0x21, 0, 0, 0, 0, 0, 0⟩], [(1, 0x100000003), (2, 0xffffffffffffffff)], [], 0,
      [(1, 0xfffffffefffffffd)], [], 1⟩,
    ⟨[⟨0x37, 0x01, 0, 0, 0x03, 0, 0, 0⟩], [(1, 0xfffffffffffffff6)], [], 0,
      [(1, 0x5555555555555552)], [], 1⟩,
    ⟨[⟨0x3f, 0x21, 0, 0, 0, 0, 0, 0⟩], [(1, 0xfffffffffffffff6), (2, 3)], [], 0,
      [(1, 0x5555555555555552)], [], 1⟩,
    ⟨[⟨0x37, 0x01, 0x01, 0, 0x02, 0, 0, 0⟩], [(1, 0xfffffffffffffff9)], [], 0,
      [(1, 0xfffffffffffffffd)], [], 1⟩,
    ⟨[⟨0x3f, 0x21, 0x01, 0, 0, 0, 0, 0⟩], [(1, 0xfffffffffffffff9), (2, 2)], [], 0,
      [(1, 0xfffffffffffffffd)], [], 1⟩,
    ⟨[⟨0x47, 0x01, 0, 0, 0, 0xff, 0xff, 0xff⟩], [(1, 0xf0f0f0f00f0f0f0f)], [], 0,
      [(1, 0xffffffffffffff0f)], [], 1⟩,
    ⟨[⟨0x4f, 0x21, 0, 0, 0, 0, 0, 0⟩], [(1, 0xf0f0f0f00f0f0f0f), (2, 0xffffffffffffff00)], [], 0,
      [(1, 0xffffffffffffff0f)], [], 1⟩,
    ⟨[⟨0x57, 0x01, 0, 0, 0, 0xff, 0xff, 0xff⟩], [(1, 0xf0f0f0f00f0f0f0f)], [], 0,
      [(1, 0xf0f0f0f00f0f0f00)], [], 1⟩,
    ⟨[⟨0x5f, 0x21, 0, 0, 0, 0, 0, 0⟩], [(1, 0xf0f0f0f00f0f0f0f), (2, 0xffffffffffffff00)], [], 0,
      [(1, 0xf0f0f0f00f0f0f00)], [], 1⟩,
    ⟨[⟨0x67, 0x01, 0, 0, 0x21, 0, 0, 0⟩], [(1, 0x8000000000000001)], [], 0,
      [(1, 0x200000000)], [], 1⟩,
    ⟨[⟨0x6f, 0x21, 0, 0, 0, 0, 0, 0⟩], [(1, 0x8000000000000001), (2, 0x21)], [], 0,
      [(1, 0x200000000)], [], 1⟩] : List Example).all Example.holds = true := by decide

/-- 40_alu.md, class ALU64 (R112 to R140). -/
theorem test_step_alu64_2 : ([
    ⟨[⟨0x77, 0x01, 0, 0, 0x21, 0, 0, 0⟩], [(1, 0x8000000080000000)], [], 0,
      [(1, 0x40000000)], [], 1⟩,
    ⟨[⟨0x7f, 0x21, 0, 0, 0, 0, 0, 0⟩], [(1, 0x8000000080000000), (2, 0x21)], [], 0,
      [(1, 0x40000000)], [], 1⟩,
    ⟨[⟨0x97, 0x01, 0, 0, 0x03, 0, 0, 0⟩], [(1, 0xfffffffffffffff6)], [], 0,
      [(1, 0)], [], 1⟩,
    ⟨[⟨0x9f, 0x21, 0, 0, 0, 0, 0, 0⟩], [(1, 0xfffffffffffffff6), (2, 3)], [], 0,
      [(1, 0)], [], 1⟩,
    ⟨[⟨0x97, 0x01, 0x01, 0, 0x03, 0, 0, 0⟩], [(1, 0xfffffffffffffff3)], [], 0,
      [(1, 0xffffffffffffffff)], [], 1⟩,
    ⟨[⟨0x9f, 0x21, 0x01, 0, 0, 0, 0, 0⟩], [(1, 0xfffffffffffffff3), (2, 3)], [], 0,
      [(1, 0xffffffffffffffff)], [], 1⟩,
    ⟨[⟨0xa7, 0x01, 0, 0, 0xff, 0xff, 0xff, 0xff⟩], [(1, 0xf0f0f0f00f0f0f0f)], [], 0,
      [(1, 0xf0f0f0ff0f0f0f0)], [], 1⟩,
    ⟨[⟨0xaf, 0x21, 0, 0, 0, 0, 0, 0⟩], [(1, 0xf0f0f0f00f0f0f0f), (2, 0xffffffffffffffff)], [], 0,
      [(1, 0xf0f0f0ff0f0f0f0)], [], 1⟩,
    ⟨[⟨0xb7, 0x01, 0, 0, 0xfe, 0xff, 0xff, 0xff⟩], [], [], 0,
      [(1, 0xfffffffffffffffe)], [], 1⟩,
    ⟨[⟨0xbf, 0x21, 0, 0, 0, 0, 0, 0⟩], [(2, 0x123456789abcdef0)], [], 0,
      [(1, 0x123456789abcdef0)], [], 1⟩,
    ⟨[⟨0xc7, 0x01, 0, 0, 0x21, 0, 0, 0⟩], [(1, 0x8000000080000000)], [], 0,
      [(1, 0xffffffffc0000000)], [], 1⟩,
    ⟨[⟨0xcf, 0x21, 0, 0, 0, 0, 0, 0⟩], [(1, 0x8000000080000000), (2, 0x21)], [], 0,
      [(1, 0xffffffffc0000000)], [], 1⟩,
    ⟨[⟨0x87, 0x01, 0, 0, 0, 0, 0, 0⟩], [(1, 1)], [], 0,
      [(1, 0xffffffffffffffff)], [], 1⟩,
    ⟨[⟨0xbf, 0x21, 0x08, 0, 0, 0, 0, 0⟩], [(2, 0x1234567812345680)], [], 0,
      [(1, 0xffffffffffffff80)], [], 1⟩,
    ⟨[⟨0xbf, 0x21, 0x10, 0, 0, 0, 0, 0⟩], [(2, 0x1234567812348000)], [], 0,
      [(1, 0xffffffffffff8000)], [], 1⟩,
    ⟨[⟨0xbf, 0x21, 0x20, 0, 0, 0, 0, 0⟩], [(2, 0x1234567880000000)], [], 0,
      [(1, 0xffffffff80000000)], [], 1⟩] : List Example).all Example.holds = true := by decide

/-- 40_alu.md, class ALU (R82 to R111). -/
theorem test_step_alu32_1 : ([
    ⟨[⟨0x04, 0x01, 0, 0, 0x02, 0, 0, 0⟩], [(1, 0xffffffffffffffff)], [], 0,
      [(1, 1)], [], 1⟩,
    ⟨[⟨0x0c, 0x21, 0, 0, 0, 0, 0, 0⟩], [(1, 0xffffffffffffffff), (2, 2)], [], 0,
      [(1, 1)], [], 1⟩,
    ⟨[⟨0x14, 0x01, 0, 0, 0x02, 0, 0, 0⟩], [(1, 1)], [], 0,
      [(1, 0xffffffff)], [], 1⟩,
    ⟨[⟨0x1c, 0x21, 0, 0, 0, 0, 0, 0⟩], [(1, 1), (2, 2)], [], 0,
      [(1, 0xffffffff)], [], 1⟩,
    ⟨[⟨0x24, 0x01, 0, 0, 0xff, 0xff, 0xff, 0xff⟩], [(1, 0x100000003)], [], 0,
      [(1, 0xfffffffd)], [], 1⟩,
    ⟨[⟨0x2c, 0x21, 0, 0, 0, 0, 0, 0⟩], [(1, 0x100000003), (2, 0xffffffffffffffff)], [], 0,
      [(1, 0xfffffffd)], [], 1⟩,
    ⟨[⟨0x34, 0x01, 0, 0, 0x03, 0, 0, 0⟩], [(1, 0xfffffffffffffff6)], [], 0,
      [(1, 0x55555552)], [], 1⟩,
    ⟨[⟨0x3c, 0x21, 0, 0, 0, 0, 0, 0⟩], [(1, 0xfffffffffffffff6), (2, 3)], [], 0,
      [(1, 0x55555552)], [], 1⟩,
    ⟨[⟨0x34, 0x01, 0x01, 0, 0x02, 0, 0, 0⟩], [(1, 0xfffffffffffffff9)], [], 0,
      [(1, 0xfffffffd)], [], 1⟩,
    ⟨[⟨0x3c, 0x21, 0x01, 0, 0, 0, 0, 0⟩], [(1, 0xfffffffffffffff9), (2, 2)], [], 0,
      [(1, 0xfffffffd)], [], 1⟩,
    ⟨[⟨0x44, 0x01, 0, 0, 0, 0xff, 0xff, 0xff⟩], [(1, 0xf0f0f0f00f0f0f0f)], [], 0,
      [(1, 0xffffff0f)], [], 1⟩,
    ⟨[⟨0x4c, 0x21, 0, 0, 0, 0, 0, 0⟩], [(1, 0xf0f0f0f00f0f0f0f), (2, 0xffffffffffffff00)], [], 0,
      [(1, 0xffffff0f)], [], 1⟩,
    ⟨[⟨0x54, 0x01, 0, 0, 0, 0xff, 0xff, 0xff⟩], [(1, 0xf0f0f0f00f0f0f0f)], [], 0,
      [(1, 0xf0f0f00)], [], 1⟩,
    ⟨[⟨0x5c, 0x21, 0, 0, 0, 0, 0, 0⟩], [(1, 0xf0f0f0f00f0f0f0f), (2, 0xffffffffffffff00)], [], 0,
      [(1, 0xf0f0f00)], [], 1⟩,
    ⟨[⟨0x64, 0x01, 0, 0, 0x21, 0, 0, 0⟩], [(1, 0x8000000000000001)], [], 0,
      [(1, 2)], [], 1⟩,
    ⟨[⟨0x6c, 0x21, 0, 0, 0, 0, 0, 0⟩], [(1, 0x8000000000000001), (2, 0x21)], [], 0,
      [(1, 2)], [], 1⟩] : List Example).all Example.holds = true := by decide

/-- 40_alu.md, class ALU (R114 to R142). -/
theorem test_step_alu32_2 : ([
    ⟨[⟨0x74, 0x01, 0, 0, 0x21, 0, 0, 0⟩], [(1, 0x8000000080000000)], [], 0,
      [(1, 0x40000000)], [], 1⟩,
    ⟨[⟨0x7c, 0x21, 0, 0, 0, 0, 0, 0⟩], [(1, 0x8000000080000000), (2, 0x21)], [], 0,
      [(1, 0x40000000)], [], 1⟩,
    ⟨[⟨0x94, 0x01, 0, 0, 0x03, 0, 0, 0⟩], [(1, 0xfffffffffffffff6)], [], 0,
      [(1, 0)], [], 1⟩,
    ⟨[⟨0x9c, 0x21, 0, 0, 0, 0, 0, 0⟩], [(1, 0xfffffffffffffff6), (2, 3)], [], 0,
      [(1, 0)], [], 1⟩,
    ⟨[⟨0x94, 0x01, 0x01, 0, 0x03, 0, 0, 0⟩], [(1, 0xfffffffffffffff3)], [], 0,
      [(1, 0xffffffff)], [], 1⟩,
    ⟨[⟨0x9c, 0x21, 0x01, 0, 0, 0, 0, 0⟩], [(1, 0xfffffffffffffff3), (2, 3)], [], 0,
      [(1, 0xffffffff)], [], 1⟩,
    ⟨[⟨0xa4, 0x01, 0, 0, 0xff, 0xff, 0xff, 0xff⟩], [(1, 0xf0f0f0f00f0f0f0f)], [], 0,
      [(1, 0xf0f0f0f0)], [], 1⟩,
    ⟨[⟨0xac, 0x21, 0, 0, 0, 0, 0, 0⟩], [(1, 0xf0f0f0f00f0f0f0f), (2, 0xffffffffffffffff)], [], 0,
      [(1, 0xf0f0f0f0)], [], 1⟩,
    ⟨[⟨0xb4, 0x01, 0, 0, 0xfe, 0xff, 0xff, 0xff⟩], [], [], 0,
      [(1, 0xfffffffe)], [], 1⟩,
    ⟨[⟨0xbc, 0x21, 0, 0, 0, 0, 0, 0⟩], [(2, 0x123456789abcdef0)], [], 0,
      [(1, 0x9abcdef0)], [], 1⟩,
    ⟨[⟨0xc4, 0x01, 0, 0, 0x21, 0, 0, 0⟩], [(1, 0x8000000080000000)], [], 0,
      [(1, 0xc0000000)], [], 1⟩,
    ⟨[⟨0xcc, 0x21, 0, 0, 0, 0, 0, 0⟩], [(1, 0x8000000080000000), (2, 0x21)], [], 0,
      [(1, 0xc0000000)], [], 1⟩,
    ⟨[⟨0x84, 0x01, 0, 0, 0, 0, 0, 0⟩], [(1, 1)], [], 0,
      [(1, 0xffffffff)], [], 1⟩,
    ⟨[⟨0xbc, 0x21, 0x08, 0, 0, 0, 0, 0⟩], [(2, 0x1234567812345680)], [], 0,
      [(1, 0xffffff80)], [], 1⟩,
    ⟨[⟨0xbc, 0x21, 0x10, 0, 0, 0, 0, 0⟩], [(2, 0x1234567812348000)], [], 0,
      [(1, 0xffff8000)], [], 1⟩] : List Example).all Example.holds = true := by decide

/-- 41_byteswap.md (R148 to R156). -/
theorem test_step_byte_swap : ([
    ⟨[⟨0xd4, 0x01, 0, 0, 0x10, 0, 0, 0⟩], [(1, 0x1122334455667788)], [], 0,
      [(1, 0x7788)], [], 1⟩,
    ⟨[⟨0xd4, 0x01, 0, 0, 0x20, 0, 0, 0⟩], [(1, 0x1122334455667788)], [], 0,
      [(1, 0x55667788)], [], 1⟩,
    ⟨[⟨0xd4, 0x01, 0, 0, 0x40, 0, 0, 0⟩], [(1, 0x1122334455667788)], [], 0,
      [], [], 1⟩,
    ⟨[⟨0xdc, 0x01, 0, 0, 0x10, 0, 0, 0⟩], [(1, 0x1122334455667788)], [], 0,
      [(1, 0x8877)], [], 1⟩,
    ⟨[⟨0xdc, 0x01, 0, 0, 0x20, 0, 0, 0⟩], [(1, 0x1122334455667788)], [], 0,
      [(1, 0x88776655)], [], 1⟩,
    ⟨[⟨0xdc, 0x01, 0, 0, 0x40, 0, 0, 0⟩], [(1, 0x1122334455667788)], [], 0,
      [(1, 0x8877665544332211)], [], 1⟩,
    ⟨[⟨0xd7, 0x01, 0, 0, 0x10, 0, 0, 0⟩], [(1, 0x1122334455667788)], [], 0,
      [(1, 0x8877)], [], 1⟩,
    ⟨[⟨0xd7, 0x01, 0, 0, 0x20, 0, 0, 0⟩], [(1, 0x1122334455667788)], [], 0,
      [(1, 0x88776655)], [], 1⟩,
    ⟨[⟨0xd7, 0x01, 0, 0, 0x40, 0, 0, 0⟩], [(1, 0x1122334455667788)], [], 0,
      [(1, 0x8877665544332211)], [], 1⟩] : List Example).all Example.holds = true := by decide

/-- 42_jump.md, class JMP (R164 to R194). -/
theorem test_step_jump64_1 : ([
    ⟨[⟨0x05, 0, 0x02, 0, 0, 0, 0, 0⟩], [], [], 0,
      [], [], 3⟩,
    ⟨[⟨0x15, 0x01, 0x03, 0, 0x01, 0, 0, 0⟩], [(1, 0xffffffff00000001)], [], 0,
      [], [], 1⟩,
    ⟨[⟨0x1d, 0x21, 0x03, 0, 0, 0, 0, 0⟩], [(1, 0xffffffff00000001), (2, 1)], [], 0,
      [], [], 1⟩,
    ⟨[⟨0x25, 0x01, 0x03, 0, 0x01, 0, 0, 0⟩], [(1, 0xffffffff00000000)], [], 0,
      [], [], 4⟩,
    ⟨[⟨0x2d, 0x21, 0x03, 0, 0, 0, 0, 0⟩], [(1, 0xffffffff00000000), (2, 1)], [], 0,
      [], [], 4⟩,
    ⟨[⟨0x35, 0x01, 0x03, 0, 0x01, 0, 0, 0⟩], [(1, 0xffffffff00000000)], [], 0,
      [], [], 4⟩,
    ⟨[⟨0x3d, 0x21, 0x03, 0, 0, 0, 0, 0⟩], [(1, 0xffffffff00000000), (2, 1)], [], 0,
      [], [], 4⟩,
    ⟨[⟨0x45, 0x01, 0x03, 0, 0xff, 0xff, 0xff, 0xff⟩], [(1, 0xffffffff00000000)], [], 0,
      [], [], 4⟩,
    ⟨[⟨0x4d, 0x21, 0x03, 0, 0, 0, 0, 0⟩], [(1, 0xffffffff00000000), (2, 0xffffffffffffffff)], [], 0,
      [], [], 4⟩,
    ⟨[⟨0x55, 0x01, 0x03, 0, 0x01, 0, 0, 0⟩], [(1, 0xffffffff00000001)], [], 0,
      [], [], 4⟩,
    ⟨[⟨0x5d, 0x21, 0x03, 0, 0, 0, 0, 0⟩], [(1, 0xffffffff00000001), (2, 1)], [], 0,
      [], [], 4⟩,
    ⟨[⟨0x65, 0x01, 0x03, 0, 0x01, 0, 0, 0⟩], [(1, 0x80000000)], [], 0,
      [], [], 4⟩,
    ⟨[⟨0x6d, 0x21, 0x03, 0, 0, 0, 0, 0⟩], [(1, 0x80000000), (2, 1)], [], 0,
      [], [], 4⟩,
    ⟨[⟨0x75, 0x01, 0x03, 0, 0x01, 0, 0, 0⟩], [(1, 0x80000000)], [], 0,
      [], [], 4⟩,
    ⟨[⟨0x7d, 0x21, 0x03, 0, 0, 0, 0, 0⟩], [(1, 0x80000000), (2, 1)], [], 0,
      [], [], 4⟩,
    ⟨[⟨0xa5, 0x01, 0x03, 0, 0x01, 0, 0, 0⟩], [(1, 0xffffffff00000000)], [], 0,
      [], [], 1⟩] : List Example).all Example.holds = true := by decide

/-- 42_jump.md, class JMP (R195 to R207). -/
theorem test_step_jump64_2 : ([
    ⟨[⟨0xad, 0x21, 0x03, 0, 0, 0, 0, 0⟩], [(1, 0xffffffff00000000), (2, 1)], [], 0,
      [], [], 1⟩,
    ⟨[⟨0xb5, 0x01, 0x03, 0, 0x01, 0, 0, 0⟩], [(1, 0xffffffff00000000)], [], 0,
      [], [], 1⟩,
    ⟨[⟨0xbd, 0x21, 0x03, 0, 0, 0, 0, 0⟩], [(1, 0xffffffff00000000), (2, 1)], [], 0,
      [], [], 1⟩,
    ⟨[⟨0xc5, 0x01, 0x03, 0, 0x01, 0, 0, 0⟩], [(1, 0x80000000)], [], 0,
      [], [], 1⟩,
    ⟨[⟨0xcd, 0x21, 0x03, 0, 0, 0, 0, 0⟩], [(1, 0x80000000), (2, 1)], [], 0,
      [], [], 1⟩,
    ⟨[⟨0xd5, 0x01, 0x03, 0, 0x01, 0, 0, 0⟩], [(1, 0x80000000)], [], 0,
      [], [], 1⟩,
    ⟨[⟨0xdd, 0x21, 0x03, 0, 0, 0, 0, 0⟩], [(1, 0x80000000), (2, 1)], [], 0,
      [], [], 1⟩] : List Example).all Example.holds = true := by decide

/-- 42_jump.md, class JMP32 (R165 to R196). -/
theorem test_step_jump32_1 : ([
    ⟨[⟨0x06, 0, 0, 0, 0x02, 0, 0, 0⟩], [], [], 0,
      [], [], 3⟩,
    ⟨[⟨0x16, 0x01, 0x03, 0, 0x01, 0, 0, 0⟩], [(1, 0xffffffff00000001)], [], 0,
      [], [], 4⟩,
    ⟨[⟨0x1e, 0x21, 0x03, 0, 0, 0, 0, 0⟩], [(1, 0xffffffff00000001), (2, 1)], [], 0,
      [], [], 4⟩,
    ⟨[⟨0x26, 0x01, 0x03, 0, 0x01, 0, 0, 0⟩], [(1, 0xffffffff00000000)], [], 0,
      [], [], 1⟩,
    ⟨[⟨0x2e, 0x21, 0x03, 0, 0, 0, 0, 0⟩], [(1, 0xffffffff00000000), (2, 1)], [], 0,
      [], [], 1⟩,
    ⟨[⟨0x36, 0x01, 0x03, 0, 0x01, 0, 0, 0⟩], [(1, 0xffffffff00000000)], [], 0,
      [], [], 1⟩,
    ⟨[⟨0x3e, 0x21, 0x03, 0, 0, 0, 0, 0⟩], [(1, 0xffffffff00000000), (2, 1)], [], 0,
      [], [], 1⟩,
    ⟨[⟨0x46, 0x01, 0x03, 0, 0xff, 0xff, 0xff, 0xff⟩], [(1, 0xffffffff00000000)], [], 0,
      [], [], 1⟩,
    ⟨[⟨0x4e, 0x21, 0x03, 0, 0, 0, 0, 0⟩], [(1, 0xffffffff00000000), (2, 0xffffffffffffffff)], [], 0,
      [], [], 1⟩,
    ⟨[⟨0x56, 0x01, 0x03, 0, 0x01, 0, 0, 0⟩], [(1, 0xffffffff00000001)], [], 0,
      [], [], 1⟩,
    ⟨[⟨0x5e, 0x21, 0x03, 0, 0, 0, 0, 0⟩], [(1, 0xffffffff00000001), (2, 1)], [], 0,
      [], [], 1⟩,
    ⟨[⟨0x66, 0x01, 0x03, 0, 0x01, 0, 0, 0⟩], [(1, 0x80000000)], [], 0,
      [], [], 1⟩,
    ⟨[⟨0x6e, 0x21, 0x03, 0, 0, 0, 0, 0⟩], [(1, 0x80000000), (2, 1)], [], 0,
      [], [], 1⟩,
    ⟨[⟨0x76, 0x01, 0x03, 0, 0x01, 0, 0, 0⟩], [(1, 0x80000000)], [], 0,
      [], [], 1⟩,
    ⟨[⟨0x7e, 0x21, 0x03, 0, 0, 0, 0, 0⟩], [(1, 0x80000000), (2, 1)], [], 0,
      [], [], 1⟩,
    ⟨[⟨0xa6, 0x01, 0x03, 0, 0x01, 0, 0, 0⟩], [(1, 0xffffffff00000000)], [], 0,
      [], [], 4⟩] : List Example).all Example.holds = true := by decide

/-- 42_jump.md, class JMP32 (R197 to R209). -/
theorem test_step_jump32_2 : ([
    ⟨[⟨0xae, 0x21, 0x03, 0, 0, 0, 0, 0⟩], [(1, 0xffffffff00000000), (2, 1)], [], 0,
      [], [], 4⟩,
    ⟨[⟨0xb6, 0x01, 0x03, 0, 0x01, 0, 0, 0⟩], [(1, 0xffffffff00000000)], [], 0,
      [], [], 4⟩,
    ⟨[⟨0xbe, 0x21, 0x03, 0, 0, 0, 0, 0⟩], [(1, 0xffffffff00000000), (2, 1)], [], 0,
      [], [], 4⟩,
    ⟨[⟨0xc6, 0x01, 0x03, 0, 0x01, 0, 0, 0⟩], [(1, 0x80000000)], [], 0,
      [], [], 4⟩,
    ⟨[⟨0xce, 0x21, 0x03, 0, 0, 0, 0, 0⟩], [(1, 0x80000000), (2, 1)], [], 0,
      [], [], 4⟩,
    ⟨[⟨0xd6, 0x01, 0x03, 0, 0x01, 0, 0, 0⟩], [(1, 0x80000000)], [], 0,
      [], [], 4⟩,
    ⟨[⟨0xde, 0x21, 0x03, 0, 0, 0, 0, 0⟩], [(1, 0x80000000), (2, 1)], [], 0,
      [], [], 4⟩] : List Example).all Example.holds = true := by decide

/-- 43_load_store.md, loads (R223 to R229). -/
theorem test_step_load : ([
    ⟨[⟨0x61, 0xa1, 0xf8, 0xff, 0, 0, 0, 0⟩], [(10, 0x2000)], stackTop, 0,
      [(1, 0xbbaa9988)], [], 1⟩,
    ⟨[⟨0x69, 0xa1, 0xf8, 0xff, 0, 0, 0, 0⟩], [(10, 0x2000)], stackTop, 0,
      [(1, 0x9988)], [], 1⟩,
    ⟨[⟨0x71, 0xa1, 0xf8, 0xff, 0, 0, 0, 0⟩], [(10, 0x2000)], stackTop, 0,
      [(1, 0x88)], [], 1⟩,
    ⟨[⟨0x79, 0xa1, 0xf8, 0xff, 0, 0, 0, 0⟩], [(10, 0x2000)], stackTop, 0,
      [(1, 0xffeeddccbbaa9988)], [], 1⟩,
    ⟨[⟨0x81, 0xa1, 0xf8, 0xff, 0, 0, 0, 0⟩], [(10, 0x2000)], stackTop, 0,
      [(1, 0xffffffffbbaa9988)], [], 1⟩,
    ⟨[⟨0x89, 0xa1, 0xf8, 0xff, 0, 0, 0, 0⟩], [(10, 0x2000)], stackTop, 0,
      [(1, 0xffffffffffff9988)], [], 1⟩,
    ⟨[⟨0x91, 0xa1, 0xf8, 0xff, 0, 0, 0, 0⟩], [(10, 0x2000)], stackTop, 0,
      [(1, 0xffffffffffffff88)], [], 1⟩] : List Example).all Example.holds = true := by decide

/-- 43_load_store.md, stores (R230 to R237). -/
theorem test_step_store : ([
    ⟨[⟨0x62, 0x0a, 0xf8, 0xff, 0xfe, 0xff, 0xff, 0xff⟩], [(10, 0x2000)], [(0x1ff8, 0), (0x1ff9, 0), (0x1ffa, 0), (0x1ffb, 0), (0x1ffc, 0), (0x1ffd, 0), (0x1ffe, 0), (0x1fff, 0)], 0,
      [], [(0x1ff8, 0xfe), (0x1ff9, 0xff), (0x1ffa, 0xff), (0x1ffb, 0xff), (0x1ffc, 0), (0x1ffd, 0), (0x1ffe, 0), (0x1fff, 0)], 1⟩,
    ⟨[⟨0x6a, 0x0a, 0xf8, 0xff, 0xfe, 0xff, 0xff, 0xff⟩], [(10, 0x2000)], [(0x1ff8, 0), (0x1ff9, 0), (0x1ffa, 0), (0x1ffb, 0), (0x1ffc, 0), (0x1ffd, 0), (0x1ffe, 0), (0x1fff, 0)], 0,
      [], [(0x1ff8, 0xfe), (0x1ff9, 0xff), (0x1ffa, 0), (0x1ffb, 0), (0x1ffc, 0), (0x1ffd, 0), (0x1ffe, 0), (0x1fff, 0)], 1⟩,
    ⟨[⟨0x72, 0x0a, 0xf8, 0xff, 0xfe, 0xff, 0xff, 0xff⟩], [(10, 0x2000)], [(0x1ff8, 0), (0x1ff9, 0), (0x1ffa, 0), (0x1ffb, 0), (0x1ffc, 0), (0x1ffd, 0), (0x1ffe, 0), (0x1fff, 0)], 0,
      [], [(0x1ff8, 0xfe), (0x1ff9, 0), (0x1ffa, 0), (0x1ffb, 0), (0x1ffc, 0), (0x1ffd, 0), (0x1ffe, 0), (0x1fff, 0)], 1⟩,
    ⟨[⟨0x7a, 0x0a, 0xf8, 0xff, 0xfe, 0xff, 0xff, 0xff⟩], [(10, 0x2000)], [(0x1ff8, 0), (0x1ff9, 0), (0x1ffa, 0), (0x1ffb, 0), (0x1ffc, 0), (0x1ffd, 0), (0x1ffe, 0), (0x1fff, 0)], 0,
      [], [(0x1ff8, 0xfe), (0x1ff9, 0xff), (0x1ffa, 0xff), (0x1ffb, 0xff), (0x1ffc, 0xff), (0x1ffd, 0xff), (0x1ffe, 0xff), (0x1fff, 0xff)], 1⟩,
    ⟨[⟨0x63, 0x1a, 0xf8, 0xff, 0, 0, 0, 0⟩], [(1, 0x1122334455667788), (10, 0x2000)], [(0x1ff8, 0), (0x1ff9, 0), (0x1ffa, 0), (0x1ffb, 0), (0x1ffc, 0), (0x1ffd, 0), (0x1ffe, 0), (0x1fff, 0)], 0,
      [], [(0x1ff8, 0x88), (0x1ff9, 0x77), (0x1ffa, 0x66), (0x1ffb, 0x55), (0x1ffc, 0), (0x1ffd, 0), (0x1ffe, 0), (0x1fff, 0)], 1⟩,
    ⟨[⟨0x6b, 0x1a, 0xf8, 0xff, 0, 0, 0, 0⟩], [(1, 0x1122334455667788), (10, 0x2000)], [(0x1ff8, 0), (0x1ff9, 0), (0x1ffa, 0), (0x1ffb, 0), (0x1ffc, 0), (0x1ffd, 0), (0x1ffe, 0), (0x1fff, 0)], 0,
      [], [(0x1ff8, 0x88), (0x1ff9, 0x77), (0x1ffa, 0), (0x1ffb, 0), (0x1ffc, 0), (0x1ffd, 0), (0x1ffe, 0), (0x1fff, 0)], 1⟩,
    ⟨[⟨0x73, 0x1a, 0xf8, 0xff, 0, 0, 0, 0⟩], [(1, 0x1122334455667788), (10, 0x2000)], [(0x1ff8, 0), (0x1ff9, 0), (0x1ffa, 0), (0x1ffb, 0), (0x1ffc, 0), (0x1ffd, 0), (0x1ffe, 0), (0x1fff, 0)], 0,
      [], [(0x1ff8, 0x88), (0x1ff9, 0), (0x1ffa, 0), (0x1ffb, 0), (0x1ffc, 0), (0x1ffd, 0), (0x1ffe, 0), (0x1fff, 0)], 1⟩,
    ⟨[⟨0x7b, 0x1a, 0xf8, 0xff, 0, 0, 0, 0⟩], [(1, 0x1122334455667788), (10, 0x2000)], [(0x1ff8, 0), (0x1ff9, 0), (0x1ffa, 0), (0x1ffb, 0), (0x1ffc, 0), (0x1ffd, 0), (0x1ffe, 0), (0x1fff, 0)], 0,
      [], [(0x1ff8, 0x88), (0x1ff9, 0x77), (0x1ffa, 0x66), (0x1ffb, 0x55), (0x1ffc, 0x44), (0x1ffd, 0x33), (0x1ffe, 0x22), (0x1fff, 0x11)], 1⟩] : List Example).all Example.holds = true := by decide

/-- 44_atomic.md, 32-bit (R245 to R254). -/
theorem test_step_atomic32 : ([
    ⟨[⟨0xc3, 0x1a, 0xf8, 0xff, 0, 0, 0, 0⟩], [(1, 0xffffffff0000ffff), (10, 0x2000)], [(0x1ff8, 0xef), (0x1ff9, 0xcd), (0x1ffa, 0xab), (0x1ffb, 0x89)], 0,
      [], [(0x1ff8, 0xee), (0x1ff9, 0xcd), (0x1ffa, 0xac), (0x1ffb, 0x89)], 1⟩,
    ⟨[⟨0xc3, 0x1a, 0xf8, 0xff, 0x01, 0, 0, 0⟩], [(1, 0xffffffff0000ffff), (10, 0x2000)], [(0x1ff8, 0xef), (0x1ff9, 0xcd), (0x1ffa, 0xab), (0x1ffb, 0x89)], 0,
      [(1, 0x89abcdef)], [(0x1ff8, 0xee), (0x1ff9, 0xcd), (0x1ffa, 0xac), (0x1ffb, 0x89)], 1⟩,
    ⟨[⟨0xc3, 0x1a, 0xf8, 0xff, 0x40, 0, 0, 0⟩], [(1, 0xffffffff0000ffff), (10, 0x2000)], [(0x1ff8, 0xef), (0x1ff9, 0xcd), (0x1ffa, 0xab), (0x1ffb, 0x89)], 0,
      [], [(0x1ff8, 0xff), (0x1ff9, 0xff), (0x1ffa, 0xab), (0x1ffb, 0x89)], 1⟩,
    ⟨[⟨0xc3, 0x1a, 0xf8, 0xff, 0x41, 0, 0, 0⟩], [(1, 0xffffffff0000ffff), (10, 0x2000)], [(0x1ff8, 0xef), (0x1ff9, 0xcd), (0x1ffa, 0xab), (0x1ffb, 0x89)], 0,
      [(1, 0x89abcdef)], [(0x1ff8, 0xff), (0x1ff9, 0xff), (0x1ffa, 0xab), (0x1ffb, 0x89)], 1⟩,
    ⟨[⟨0xc3, 0x1a, 0xf8, 0xff, 0x50, 0, 0, 0⟩], [(1, 0xffffffff0000ffff), (10, 0x2000)], [(0x1ff8, 0xef), (0x1ff9, 0xcd), (0x1ffa, 0xab), (0x1ffb, 0x89)], 0,
      [], [(0x1ff8, 0xef), (0x1ff9, 0xcd), (0x1ffa, 0), (0x1ffb, 0)], 1⟩,
    ⟨[⟨0xc3, 0x1a, 0xf8, 0xff, 0x51, 0, 0, 0⟩], [(1, 0xffffffff0000ffff), (10, 0x2000)], [(0x1ff8, 0xef), (0x1ff9, 0xcd), (0x1ffa, 0xab), (0x1ffb, 0x89)], 0,
      [(1, 0x89abcdef)], [(0x1ff8, 0xef), (0x1ff9, 0xcd), (0x1ffa, 0), (0x1ffb, 0)], 1⟩,
    ⟨[⟨0xc3, 0x1a, 0xf8, 0xff, 0xa0, 0, 0, 0⟩], [(1, 0xffffffff0000ffff), (10, 0x2000)], [(0x1ff8, 0xef), (0x1ff9, 0xcd), (0x1ffa, 0xab), (0x1ffb, 0x89)], 0,
      [], [(0x1ff8, 0x10), (0x1ff9, 0x32), (0x1ffa, 0xab), (0x1ffb, 0x89)], 1⟩,
    ⟨[⟨0xc3, 0x1a, 0xf8, 0xff, 0xa1, 0, 0, 0⟩], [(1, 0xffffffff0000ffff), (10, 0x2000)], [(0x1ff8, 0xef), (0x1ff9, 0xcd), (0x1ffa, 0xab), (0x1ffb, 0x89)], 0,
      [(1, 0x89abcdef)], [(0x1ff8, 0x10), (0x1ff9, 0x32), (0x1ffa, 0xab), (0x1ffb, 0x89)], 1⟩,
    ⟨[⟨0xc3, 0x1a, 0xf8, 0xff, 0xe1, 0, 0, 0⟩], [(1, 0xffffffff0000ffff), (10, 0x2000)], [(0x1ff8, 0xef), (0x1ff9, 0xcd), (0x1ffa, 0xab), (0x1ffb, 0x89)], 0,
      [(1, 0x89abcdef)], [(0x1ff8, 0xff), (0x1ff9, 0xff), (0x1ffa, 0), (0x1ffb, 0)], 1⟩,
    ⟨[⟨0xc3, 0x1a, 0xf8, 0xff, 0xf1, 0, 0, 0⟩], [(0, 0xdeadbeef89abcdef), (1, 0xffffffff0000ffff), (10, 0x2000)], [(0x1ff8, 0xef), (0x1ff9, 0xcd), (0x1ffa, 0xab), (0x1ffb, 0x89)], 0,
      [(0, 0x89abcdef)], [(0x1ff8, 0xff), (0x1ff9, 0xff), (0x1ffa, 0), (0x1ffb, 0)], 1⟩] : List Example).all Example.holds = true := by decide

/-- 44_atomic.md, 64-bit (R255 to R264). -/
theorem test_step_atomic64 : ([
    ⟨[⟨0xdb, 0x1a, 0xf8, 0xff, 0, 0, 0, 0⟩], [(1, 0xffffffff0000ffff), (10, 0x2000)], [(0x1ff8, 0xef), (0x1ff9, 0xcd), (0x1ffa, 0xab), (0x1ffb, 0x89), (0x1ffc, 0x67), (0x1ffd, 0x45), (0x1ffe, 0x23), (0x1fff, 1)], 0,
      [], [(0x1ff8, 0xee), (0x1ff9, 0xcd), (0x1ffa, 0xac), (0x1ffb, 0x89), (0x1ffc, 0x66), (0x1ffd, 0x45), (0x1ffe, 0x23), (0x1fff, 1)], 1⟩,
    ⟨[⟨0xdb, 0x1a, 0xf8, 0xff, 0x01, 0, 0, 0⟩], [(1, 0xffffffff0000ffff), (10, 0x2000)], [(0x1ff8, 0xef), (0x1ff9, 0xcd), (0x1ffa, 0xab), (0x1ffb, 0x89), (0x1ffc, 0x67), (0x1ffd, 0x45), (0x1ffe, 0x23), (0x1fff, 1)], 0,
      [(1, 0x123456789abcdef)], [(0x1ff8, 0xee), (0x1ff9, 0xcd), (0x1ffa, 0xac), (0x1ffb, 0x89), (0x1ffc, 0x66), (0x1ffd, 0x45), (0x1ffe, 0x23), (0x1fff, 1)], 1⟩,
    ⟨[⟨0xdb, 0x1a, 0xf8, 0xff, 0x40, 0, 0, 0⟩], [(1, 0xffffffff0000ffff), (10, 0x2000)], [(0x1ff8, 0xef), (0x1ff9, 0xcd), (0x1ffa, 0xab), (0x1ffb, 0x89), (0x1ffc, 0x67), (0x1ffd, 0x45), (0x1ffe, 0x23), (0x1fff, 1)], 0,
      [], [(0x1ff8, 0xff), (0x1ff9, 0xff), (0x1ffa, 0xab), (0x1ffb, 0x89), (0x1ffc, 0xff), (0x1ffd, 0xff), (0x1ffe, 0xff), (0x1fff, 0xff)], 1⟩,
    ⟨[⟨0xdb, 0x1a, 0xf8, 0xff, 0x41, 0, 0, 0⟩], [(1, 0xffffffff0000ffff), (10, 0x2000)], [(0x1ff8, 0xef), (0x1ff9, 0xcd), (0x1ffa, 0xab), (0x1ffb, 0x89), (0x1ffc, 0x67), (0x1ffd, 0x45), (0x1ffe, 0x23), (0x1fff, 1)], 0,
      [(1, 0x123456789abcdef)], [(0x1ff8, 0xff), (0x1ff9, 0xff), (0x1ffa, 0xab), (0x1ffb, 0x89), (0x1ffc, 0xff), (0x1ffd, 0xff), (0x1ffe, 0xff), (0x1fff, 0xff)], 1⟩,
    ⟨[⟨0xdb, 0x1a, 0xf8, 0xff, 0x50, 0, 0, 0⟩], [(1, 0xffffffff0000ffff), (10, 0x2000)], [(0x1ff8, 0xef), (0x1ff9, 0xcd), (0x1ffa, 0xab), (0x1ffb, 0x89), (0x1ffc, 0x67), (0x1ffd, 0x45), (0x1ffe, 0x23), (0x1fff, 1)], 0,
      [], [(0x1ff8, 0xef), (0x1ff9, 0xcd), (0x1ffa, 0), (0x1ffb, 0), (0x1ffc, 0x67), (0x1ffd, 0x45), (0x1ffe, 0x23), (0x1fff, 1)], 1⟩,
    ⟨[⟨0xdb, 0x1a, 0xf8, 0xff, 0x51, 0, 0, 0⟩], [(1, 0xffffffff0000ffff), (10, 0x2000)], [(0x1ff8, 0xef), (0x1ff9, 0xcd), (0x1ffa, 0xab), (0x1ffb, 0x89), (0x1ffc, 0x67), (0x1ffd, 0x45), (0x1ffe, 0x23), (0x1fff, 1)], 0,
      [(1, 0x123456789abcdef)], [(0x1ff8, 0xef), (0x1ff9, 0xcd), (0x1ffa, 0), (0x1ffb, 0), (0x1ffc, 0x67), (0x1ffd, 0x45), (0x1ffe, 0x23), (0x1fff, 1)], 1⟩,
    ⟨[⟨0xdb, 0x1a, 0xf8, 0xff, 0xa0, 0, 0, 0⟩], [(1, 0xffffffff0000ffff), (10, 0x2000)], [(0x1ff8, 0xef), (0x1ff9, 0xcd), (0x1ffa, 0xab), (0x1ffb, 0x89), (0x1ffc, 0x67), (0x1ffd, 0x45), (0x1ffe, 0x23), (0x1fff, 1)], 0,
      [], [(0x1ff8, 0x10), (0x1ff9, 0x32), (0x1ffa, 0xab), (0x1ffb, 0x89), (0x1ffc, 0x98), (0x1ffd, 0xba), (0x1ffe, 0xdc), (0x1fff, 0xfe)], 1⟩,
    ⟨[⟨0xdb, 0x1a, 0xf8, 0xff, 0xa1, 0, 0, 0⟩], [(1, 0xffffffff0000ffff), (10, 0x2000)], [(0x1ff8, 0xef), (0x1ff9, 0xcd), (0x1ffa, 0xab), (0x1ffb, 0x89), (0x1ffc, 0x67), (0x1ffd, 0x45), (0x1ffe, 0x23), (0x1fff, 1)], 0,
      [(1, 0x123456789abcdef)], [(0x1ff8, 0x10), (0x1ff9, 0x32), (0x1ffa, 0xab), (0x1ffb, 0x89), (0x1ffc, 0x98), (0x1ffd, 0xba), (0x1ffe, 0xdc), (0x1fff, 0xfe)], 1⟩,
    ⟨[⟨0xdb, 0x1a, 0xf8, 0xff, 0xe1, 0, 0, 0⟩], [(1, 0xffffffff0000ffff), (10, 0x2000)], [(0x1ff8, 0xef), (0x1ff9, 0xcd), (0x1ffa, 0xab), (0x1ffb, 0x89), (0x1ffc, 0x67), (0x1ffd, 0x45), (0x1ffe, 0x23), (0x1fff, 1)], 0,
      [(1, 0x123456789abcdef)], [(0x1ff8, 0xff), (0x1ff9, 0xff), (0x1ffa, 0), (0x1ffb, 0), (0x1ffc, 0xff), (0x1ffd, 0xff), (0x1ffe, 0xff), (0x1fff, 0xff)], 1⟩,
    ⟨[⟨0xdb, 0x1a, 0xf8, 0xff, 0xf1, 0, 0, 0⟩], [(0, 0x123456789abcdef), (1, 0xffffffff0000ffff), (10, 0x2000)], [(0x1ff8, 0xef), (0x1ff9, 0xcd), (0x1ffa, 0xab), (0x1ffb, 0x89), (0x1ffc, 0x67), (0x1ffd, 0x45), (0x1ffe, 0x23), (0x1fff, 1)], 0,
      [], [(0x1ff8, 0xff), (0x1ff9, 0xff), (0x1ffa, 0), (0x1ffb, 0), (0x1ffc, 0xff), (0x1ffd, 0xff), (0x1ffe, 0xff), (0x1fff, 0xff)], 1⟩] : List Example).all Example.holds = true := by decide

/-! ## The corner cases of arithmetic (40_alu.md R71, R74 to R76) -/

/-- The result of one arithmetic instruction with r1 and r2 given. -/
def result (i : Instr) (a b : Word) : Option Word :=
  match exec i (((State.reset.setReg 1 a).setReg 2 b).setReg 3 0) with
  | .next t => t.reg 1
  | .fault _ | .refused _ => none

/-- Division and modulo by zero. -/
theorem test_zero_divisor : result (.div64Reg 1 2) 7 0 = some 0 ∧ result (.sdiv32Imm 1 0) 7 0 = some 0 ∧
    result (.mod64Reg 1 2) 7 0 = some 7 ∧ result (.mod32Reg 1 2) 0xffffffff00000007 0x100000000 = some 7 := by decide
/-- The most negative value by -1: dividend and 0 by default. -/
theorem test_sdiv_overflow : result (.sdiv64Imm 1 0xffffffff) 0x8000000000000000 0 = some 0x8000000000000000 ∧
    result (.smod64Imm 1 0xffffffff) 0x8000000000000000 0 = some 0 ∧
    result (.sdiv32Reg 1 2) 0x80000000 0xffffffff = some 0x80000000 ∧
    result (.smod32Reg 1 2) 0x80000000 0xffffffff = some 0 := by decide
/-- `-13 % 3 == -1`, truncated division. -/
theorem test_smod_truncates : result (.smod64Imm 1 3) (-13) 0 = some (-1) ∧ result (.smod64Reg 1 2) 13 (-3) = some 1 ∧
    result (.sdiv64Imm 1 3) (-13) 0 = some (-4) := by decide
/-- Shift counts are taken modulo 64 or 32. -/
theorem test_shift_masks : result (.lsh64Imm 1 65) 1 0 = some 2 ∧ result (.rsh32Reg 1 2) 0x80000000 33 = some 0x40000000 ∧
    result (.arsh32Imm 1 4) 0x80000000 0 = some 0xf8000000 := by decide
/-- Sign-extending moves. -/
theorem test_movsx : result (.movsx64From8 1 2) 0 0x80 = some 0xffffffffffffff80 ∧
    result (.movsx32From16 1 2) 0 0x8000 = some 0xffff8000 := by decide

/-! ## Calls, exit, helpers and platform addresses (42_jump.md, 45_imm64.md) -/

/-- A program with a wide instruction at slot 2 (its second slot is 3) and `exit` at 4. -/
def sample : List Slot :=
  [filler, filler, ⟨0x18, 0x01, 0, 0, 0x88, 0x77, 0x66, 0x55⟩, ⟨0, 0, 0, 0, 0x44, 0x33, 0x22, 0x11⟩,
    ⟨0x95, 0, 0, 0, 0, 0, 0, 0⟩]

/-- Parameters with a private and a shared region, and platform functions. -/
def sampleParams : Params :=
  { defaultParams with
    admissions := admitRegion 0x1000 0x1000 true true true ++ admitRegion 0x4000 0x100 true true true
    shared := [⟨0x4000, 0x100⟩]
    mapByFd := [(3, 0x7000)]
    mapByIdx := [(0, 0x7100)]
    mapVal := [(0x7000, 0x8000), (0x7100, 0x8100)]
    varAddr := [(5, 0x9000)]
    codeAddr := [((1, 2), 0xa000)] }

/-- r1 is an aligned private address, r3 an aligned shared one, r4 a misaligned one, r5 one that is not admitted, r7
the most negative value, r8 is -1, r9 is unwritten. -/
def sampleRegs : Vector (Option Word) 11 :=
  #v[some 0, some 0x1ff8, some 3, some 0x4008, some 0x1ff9, some 0x9000, some 0x100000003, some 0x8000000000000000,
    some (-1), none, some 0x2000]

/-- Helpers with a static ID. 7 is the sum of its first two arguments (the example of 42_jump.md R212); 13 reads and
writes the byte at r1 where r2 is below 8, and faults otherwise; 14 adds the difference of two reads of the byte at r3 to
the word at r1; 15 reads the half word at r3; 16 is the smaller of the byte at r3 and r2; 12 raises a fault; 11 is not
defined to the model. -/
def sampleHelpers : List (Word32 × HelperBody) :=
  [(7, .ret (.op .add (.arg 0) (.arg 1)) []),
    (13, .ite (.op .ult (.arg 1) (.const 8))
      (.ret (.load .b (.arg 0)) [(.arg 0, .const 1), (.arg 0, .arg 1)])
      (.memoryFault (.arg 0) 1 .write .notAdmitted)),
    (14, .ret (.op .add (.load .w (.arg 0)) (.op .sub (.load .b (.arg 2)) (.load .b (.arg 2)))) []),
    (15, .ret (.load .h (.arg 2)) []),
    (16, .ite (.op .ult (.load .b (.arg 2)) (.arg 1)) (.ret (.load .b (.arg 2)) []) (.ret (.arg 1) [])), (12, .fault (.framePointerWrite 3)), (11, .undefined)]

/-- Helpers with a BTF ID. -/
def sampleBtfHelpers : List (Word32 × HelperBody) := [(7, .ret (.const 5) []), (9, .undefined)]

/-- What an undefined helper answers in the samples: it uses r1 and r2, and writes one byte. -/
def sampleAnswer : HelperAnswer := ⟨[0, 1], none, 42, [(0x1ff8, 1), (0x1ff8, 2)]⟩

/-- The state of the samples, at slot 1. -/
def sampleState : State :=
  { State.entry sampleParams sampleHelpers sampleBtfHelpers sample sampleRegs
      [(0x1ff8, 0x88), (0x1ff9, 0x77), (0x1ffa, 0x66), (0x1ffb, 0x55), (0x1ffc, 0x44), (0x1ffd, 0x33),
        (0x1ffe, 0x22), (0x1fff, 0x11)] [0x1122334455667788]
      [[(0x4008, 5), (0x4009, 0xbb)], [(0x4008, 200)]]
      [((.btf, 9), ⟨[], none, 6, []⟩), ((.static, 11), sampleAnswer), ((.static, 11), ⟨[1], some .callDepthExceeded, 0, []⟩)] with
    pc := 1 }

/-- The sample state in a called function. -/
def calledState : State := { sampleState with frames := [⟨4, some 1, none, some 3, some 4, some 0x2000⟩] }

/-- The sample state at the deepest call. -/
def deepState : State := { sampleState with frames := List.replicate 8 ⟨4, none, none, none, none, some 0x2000⟩ }

/-- The sample state on a big-endian host. -/
def bigState : State := { sampleState with params := { sampleParams with hostEndian := .big } }

/-- The sample state where misaligned accesses are allowed. -/
def allowState : State := { sampleState with params := { sampleParams with misaligned := .allow } }

/-- The fault of an instruction or a step, if it faults. -/
def faultOf : Host.Outcome State Fault Refusal → Option Fault
  | .fault f => some f
  | .next _ | .refused _ => none

/-- What is read of the state after an instruction. -/
def after {α : Type} (i : Instr) (s : State) (f : State → α) : Option α :=
  match exec i s with
  | .next t => some (f t)
  | .fault _ | .refused _ => none

theorem test_call_local : after (.callLocal 2) sampleState (fun t => (t.pc, t.reg 10, t.reg 6, t.reg 2, t.frames)) =
    some (4, some 0x1e00, none, some 3,
      [⟨2, some 0x100000003, some 0x8000000000000000, some (-1), none, some 0x2000⟩]) := by decide
theorem test_call_depth : faultOf (exec (.callLocal 2) deepState) = some .callDepthExceeded := by decide
theorem test_exit_returns : after .exit calledState (fun t => (t.pc, t.reg 0, t.reg 1, t.reg 6, t.frames)) =
    some (4, some 0, none, some 1, []) := by decide
theorem test_exit_ends : after .exit sampleState (fun t => (t.result, t.pc)) = some (some 0, 1) := by decide
/-- The example of 42_jump.md R212: helper 7 is the sum of its first two arguments, and there is no helper 8. -/
theorem test_call_helper : after (.callHelper 7) (((sampleState.setReg 1 0x28).setReg 2 2).setReg 6 9)
      (fun t => (t.reg 0, t.reg 1, t.reg 2, t.reg 6, t.pc)) = some (some 0x2a, none, none, some 9, 2) ∧
    faultOf (exec (.callHelper 8) sampleState) = some (.unknownHelper 0 8) := by decide
/-- The name spaces are separate (42_jump.md R215). -/
theorem test_call_btf : after (.callBtf 7) sampleState (fun t => (t.reg 0, t.reg 10)) = some (some 5, some 0x2000) ∧
    faultOf (exec (.callBtf 13) sampleState) = some (.unknownHelper 2 13) := by decide
/-- A helper reads and writes memory, chooses on an argument, and raises its own faults (42_jump.md R211, R212). -/
theorem test_helper_effects : after (.callHelper 13) sampleState (fun t => (t.reg 0, t.readByte 0x1ff8)) =
      some (some 0x88, 3) ∧
    faultOf (exec (.callHelper 13) (sampleState.setReg 2 8)) =
      some (.memoryFault ⟨0x1ff8, 1, .write, .notAdmitted⟩) ∧
    faultOf (exec (.callHelper 12) sampleState) = some (.framePointerWrite 3) ∧
    faultOf (exec (.callHelper 7) (sampleState.clearReg 2)) = some (.uninitRegister 2) := by decide
/-- A helper reads shared regions as other agents left them before this call, as oracle input, and not the byte that the
model recorded; the next call reads them anew (20_memory.md R47, 70_reset_and_hazards.md R313, R314). -/
theorem test_helper_shared : after (.callHelper 15) { sampleState with mem := [(0x4008, 1)] }
      (fun t => (t.reg 0, t.snapshots, t.snapshotCount, t.readByte 0x4008)) =
        some (some 0xbb05, [[(0x4008, 200)]], 1, 1) ∧
    after (.callHelper 16) (sampleState.setReg 2 10) (·.reg 0) = some (some 5) ∧
    after (.callHelper 16) (sampleState.drawSnapshot.setReg 2 10) (·.reg 0) = some (some 10) := by decide
/-- A helper is a function of one data memory: its reads of one shared byte agree, whatever that byte is
(42_jump.md R211). -/
theorem test_helper_one_memory : after (.callHelper 14) sampleState (·.reg 0) = some (some 0x55667788) ∧
    after (.callHelper 14) sampleState.drawSnapshot (fun t => (t.reg 0, t.oracleCount, t.snapshotCount)) =
      some (some 0x55667788, 0, 2) := by decide
/-- An undefined helper takes the next answer supplied for its kind and identifier. -/
theorem test_helper_oracle : after (.callHelper 11) sampleState
      (fun t => (t.reg 0, t.readByte 0x1ff8, t.helperCount, t.helperAnswers.length)) = some (some 42, 2, 1, 2) ∧
    after (.callBtf 9) sampleState (·.reg 0) = some (some 6) ∧
    faultOf (exec (.callHelper 11) (sampleState.drawHelper .static 11)) = some .callDepthExceeded := by decide
theorem test_platform : after (.ldMapFd 1 3) sampleState (·.reg 1) = some (some 0x7000) ∧
    after (.ldMapValFd 1 3 4) sampleState (·.reg 1) = some (some 0x8004) ∧
    after (.ldVarAddr 1 5) sampleState (·.reg 1) = some (some 0x9000) ∧
    after (.ldCodeAddr 1 2) sampleState (·.reg 1) = some (some 0xa000) ∧
    after (.ldMapIdx 1 0) sampleState (·.reg 1) = some (some 0x7100) ∧
    after (.ldMapValIdx 1 0 0xffffffff) sampleState (·.reg 1) = some (some 0x1000080ff) := by decide
theorem test_unknown_platform : faultOf (exec (.ldVarAddr 1 6) sampleState) = some (.unknownPlatformObject 3 6) := by decide

/-! ## Memory on either host, shared memory, and the faults -/

theorem test_load_little : after (.ldxw 2 1 0) sampleState (·.reg 2) = some (some 0x55667788) := by decide
theorem test_load_big : after (.ldxw 2 1 0) bigState (·.reg 2) = some (some 0x88776655) := by decide
theorem test_load_shared : after (.ldxh 2 3 0) sampleState (fun t => (t.reg 2, t.oracle, t.oracleCount)) =
    some (some 0x7788, [], 1) := by decide
theorem test_misaligned : faultOf (exec (.ldxw 2 4 0) sampleState) = some (.memoryFault ⟨0x1ff9, 4, .read, .misaligned⟩) ∧
    after (.ldxw 2 4 0) allowState (·.reg 2) = some (some 0x44556677) ∧
    faultOf (exec (.atomicAdd32 4 2 0) allowState) = some (.memoryFault ⟨0x1ff9, 4, .atomic, .misaligned⟩) := by decide
theorem test_not_admitted : faultOf (exec (.stxb 5 2 0) sampleState) = some (.memoryFault ⟨0x9000, 1, .write, .notAdmitted⟩) := by
  decide
/-- What `MEM` admits may depend on the size of an access and on a boundary: a double word across two regions is
admitted only by a rule of its own (20_memory.md R40). -/
theorem test_admission_by_size :
    let two := admitRegion 0x1000 4 true true true ++ admitRegion 0x1004 0x100 true true false
    let s (rules : List Admission) := { sampleState with params := { sampleParams with admissions := rules } }
    (s two).admits 0x1000 .w .read = true ∧ (s two).admits 0x1000 .dw .read = false ∧
    (s two).admits 0x1000 .w .atomic = true ∧ (s two).admits 0x1004 .w .atomic = false ∧
    (s (⟨0x1000, 0x1000, 8, true, false, false⟩ :: two)).admits 0x1000 .dw .read = true ∧
    (s [⟨0x1000, 0x1000, 8, false, true, true⟩]).admits 0x1000 .dw .atomic = false := by decide
theorem test_frame_pointer : faultOf (exec (.mov64Imm 10 0) sampleState) = some (.framePointerWrite 1) := by decide
theorem test_uninit : faultOf (exec (.add64Reg 1 9) sampleState) = some (.uninitRegister 9) := by decide
theorem test_packet : faultOf (exec (.ldindw 1 14) sampleState) = some (.illegalInstruction 1) := by decide
theorem test_end_of_program : faultOf (step { sampleState with pc := 5 }) = some (.badJumpTarget 5) := by decide
theorem test_second_slot : faultOf (exec (.ja 1) sampleState) = some (.badJumpTarget 3) := by decide
theorem test_reset_runs : (match step (State.reset.withFetchWord 64 0x0000000500000107) with
    | .next t => t.reg 1
    | .fault _ | .refused _ => none) = some 0x3005 := by decide

/-! ## Witnesses: concrete states and operands that meet the hypotheses of the statements, clause by clause -/

/-- A register other than r10 may be written. -/
theorem writable {s : State} {d : Reg} (h : d ≠ 10) : s.Writable d := fun e => absurd e h

/-- Alu64Results, Alu32Results, ShiftResults, SignedDivisionIsTruncated (both divisors). -/
theorem witness_arithmetic : sampleState.Writable 1 ∧ sampleState.reg 1 = some 0x1ff8 ∧ sampleState.reg 2 = some 3 ∧
    (3 : Word) ≠ 0 ∧ ¬((0x1ff8 : Word) = BitVec.intMin 64 ∧ (3 : Word) = -1) :=
  ⟨writable (by decide), by decide, by decide, by decide, by decide⟩

/-- ZeroDivisorResults: a zero register, a zero immediate, and a register whose low half alone is zero. -/
theorem witness_ZeroDivisorResults : sampleState.Writable 1 ∧ sampleState.reg 1 = some 0x1ff8 ∧
    sampleState.reg 0 = some 0 ∧ sampleState.reg 7 = some 0x8000000000000000 ∧
    (0x8000000000000000 : Word).setWidth 32 = 0#32 ∧ (0x8000000000000000 : Word) ≠ 0 :=
  ⟨writable (by decide), by decide, by decide, by decide, by decide, by decide⟩

/-- DivisionResults: divisors that are not zero, and the overflow case of each width. -/
theorem witness_DivisionResults : sampleState.Writable 7 ∧ sampleState.reg 7 = some (BitVec.intMin 64) ∧
    sampleState.reg 8 = some (-1#64) ∧ (-1#64) ≠ 0#64 ∧ (0xffffffff : Word32).signExtend 64 ≠ 0#64 ∧
    ((-1#64).setWidth 32 : Word32) ≠ 0#32 ∧ (0x80000000 : Word32) = BitVec.intMin 32 :=
  ⟨writable (by decide), by decide, by decide, by decide, by decide, by decide, by decide⟩

/-- Alu32UsesLowHalvesOnly: two states that differ in the upper half of r1. -/
theorem witness_Alu32UsesLowHalvesOnly : sampleState.Writable 1 ∧ sampleState.reg 1 = some 0x1ff8 ∧
    sampleState.reg 2 = some 3 ∧ (sampleState.setReg 1 0x500001ff8).Writable 1 ∧
    (sampleState.setReg 1 0x500001ff8).reg 1 = some 0x500001ff8 ∧ (sampleState.setReg 1 0x500001ff8).reg 2 = some 3 ∧
    (sampleState.setReg 1 0x500001ff8).params = sampleState.params ∧
    (0x1ff8 : Word).setWidth 32 = (0x500001ff8 : Word).setWidth 32 :=
  ⟨writable (by decide), by decide, by decide, writable (by decide), by decide, by decide, rfl, by decide⟩

/-- MoveResults, ImmediateMovesNeedNoRegister: the destination r9 is unwritten. -/
theorem witness_moves : sampleState.Writable 9 ∧ sampleState.reg 9 = none ∧ sampleState.reg 2 = some 3 :=
  ⟨writable (by decide), by decide, by decide⟩

/-- ByteSwapResults, ByteSwapTwice: a host of either order. -/
theorem witness_byteSwaps : sampleState.Writable 6 ∧ sampleState.reg 6 = some 0x100000003 ∧
    sampleState.params.hostEndian = .little ∧ bigState.Writable 6 ∧ bigState.reg 6 = some 0x100000003 ∧
    bigState.params.hostEndian = .big :=
  ⟨writable (by decide), by decide, rfl, writable (by decide), by decide, rfl⟩

/-- ConditionalJumpResults, UnconditionalJumpResults, LocalCallResult: taken to the first and to the last slot, and not
taken. -/
theorem witness_jumps : sampleState.reg 1 = some 0x1ff8 ∧ sampleState.reg 2 = some 3 ∧
    decide ((3 : Word).toNat < (0x1ff8 : Word).toNat) = true ∧ decide ((0x1ff8 : Word) = 3) = false ∧
    sampleState.ValidTarget ((sampleState.pc : Int) + 1 + (0xfffe : BitVec 16).toInt) ∧
    sampleState.ValidTarget ((sampleState.pc : Int) + 1 + (2 : BitVec 16).toInt) ∧
    sampleState.ValidTarget ((sampleState.pc : Int) + 1 + (2 : Word32).toInt) ∧
    sampleState.frames.length < sampleState.params.maxCallDepth := by
  unfold State.ValidTarget; decide

/-- BadJumpTargets, LocalCallFaults: before the program, a second slot, and the end; and the deepest call. -/
theorem witness_badTargets : sampleState.reg 1 = some 0x1ff8 ∧ sampleState.reg 2 = some 3 ∧
    decide ((0x1ff8 : Word) ≠ 3) = true ∧
    ¬ sampleState.ValidTarget ((sampleState.pc : Int) + 1 + (0xfffd : BitVec 16).toInt) ∧
    ¬ sampleState.ValidTarget ((sampleState.pc : Int) + 1 + (1 : BitVec 16).toInt) ∧
    ¬ sampleState.ValidTarget ((sampleState.pc : Int) + 1 + (3 : Word32).toInt) ∧
    sampleState.frames.length < sampleState.params.maxCallDepth ∧
    deepState.params.maxCallDepth ≤ deepState.frames.length := by
  unfold State.ValidTarget; decide

/-- InstructionStarts: a basic and a wide instruction, the last slot, and the end of the program. -/
theorem witness_InstructionStarts : sampleState.program ≠ [] ∧ sampleState.program.length ≤ 5 ∧
    sampleState.isStart 1 = true ∧ sampleState.program[1]? = some filler ∧ filler.b0 ≠ 0x18 ∧
    sampleState.isStart 2 = true ∧ (sampleState.program[2]?).map Slot.b0 = some 0x18 ∧
    sampleState.isStart 4 = true := by decide

/-- ExitEndsTheRun, ExitReturnsToTheCaller. -/
theorem witness_exits : sampleState.frames = [] ∧ sampleState.reg 0 = some 0 ∧
    calledState.frames = [⟨4, some 1, none, some 3, some 4, some 0x2000⟩] ∧ calledState.reg 0 = some 0 := by decide

/-- CallAndReturn: the callee writes r0 and returns. -/
theorem witness_CallAndReturn : sampleState.frames.length < sampleState.params.maxCallDepth ∧
    sampleState.ValidTarget ((sampleState.pc : Int) + 1 + (2 : Word32).toInt) ∧
    ((sampleState.enterFunction 4).setReg 0 5).reg 0 = some 5 ∧
    exec (.callLocal 2) sampleState = .next (sampleState.enterFunction 4) ∧
    ((sampleState.enterFunction 4).setReg 0 5).frames = (sampleState.enterFunction 4).frames :=
  ⟨by decide, by unfold State.ValidTarget; decide, by decide, rfl, rfl⟩

/-- HelperCallResults: a helper of each kind, one that writes a byte twice, so that the last write counts, and one that
reads a shared byte twice: the smaller of 5 and 10. -/
theorem witness_HelperCallResults :
    lookup sampleState.helpers 7 = some (.ret (.op .add (.arg 0) (.arg 1)) []) ∧
    lookup sampleState.btfHelpers 7 = some (.ret (.const 5) []) ∧
    (HelperBody.ret (.op .add (.arg 0) (.arg 1)) []).run sampleState.helperInput = .ok (.done 0x1ffb []) ∧
    (HelperExpr.op .add (.arg 0) (.arg 1)).eval sampleState.helperInput = .ok 0x1ffb ∧
    evalWrites sampleState.helperInput [(.arg 0, .const 1), (.arg 0, .arg 1)] =
      .ok ([(0x1ff8, 1)] ++ (0x1ff8, 3) :: []) ∧
    (HelperBody.ite (.op .ult (.load .b (.arg 2)) (.const 10)) (.ret (.load .b (.arg 2)) []) (.ret (.const 10) [])).run
      sampleState.helperInput = .ok (.done 5 []) := by decide

/-- HelperMemoryReads: an address of private and one of shared memory, and a helper that subtracts two reads of one shared
byte. -/
theorem witness_HelperMemoryReads : lookup sampleState.helpers 15 = some (.ret (.load .h (.arg 2)) []) ∧
    (sampleState.setReg 3 0x1ffe).reg (argReg 2) = some 0x1ffe ∧ (sampleState.setReg 3 0x1ffe).Private 0x1ffe .h ∧
    sampleState.reg (argReg 2) = some 0x4008 ∧ sampleState.Shared 0x4008 .h ∧
    (∀ j < 2, (sampleState.setReg 3 0x1ffe).readByte (byteAddr 0x1ffe j) = [0x22, 0x11].getD j 0) ∧
    sampleState.snapshots = [(0x4008, 5), (0x4009, 0xbb)] :: [[(0x4008, 200)]] ∧
    (∀ j < 2, Memory.get [(0x4008, 5), (0x4009, 0xbb)] (byteAddr 0x4008 j) = some ([5, 0xbb].getD j 0)) ∧
    lookup { sampleState with helpers := [(3, .ret (.op .sub (.load .b (.arg 2)) (.load .b (.arg 2))) [])] }.helpers 3 =
      some (.ret (.op .sub (.load .b (.arg 2)) (.load .b (.arg 2))) []) ∧
    (∀ i ∈ (HelperExpr.load .b (.arg 2)).args, sampleState.reg (argReg i) ≠ none) :=
  ⟨by decide, by decide, by unfold State.Private; decide, by decide, by unfold State.Shared; decide, by decide, rfl,
    by decide, by decide, by decide⟩

/-- HelperArgumentsMustBeWritten: an unwritten argument of a condition, of a written value, of the address of a fault, one on
a way that is not taken, and each end of a definition with all its arguments written. -/
theorem witness_HelperArgumentsMustBeWritten :
    let h : HelperBody := .ite (.op .ult (.arg 1) (.const 8)) (.ret (.const 0) [(.const 0x1ff8, .arg 0)])
      (.memoryFault (.arg 2) 1 .write .notAdmitted)
    let s := { sampleState with helpers := [(3, h)] }
    lookup s.helpers 3 = some h ∧
    (1 : Fin 5) ∈ h.args (s.clearReg 2).helperInput ∧ (s.clearReg 2).reg (argReg 1) = none ∧
    (0 : Fin 5) ∈ h.args (s.clearReg 1).helperInput ∧ (s.clearReg 1).reg (argReg 0) = none ∧
    (2 : Fin 5) ∈ h.args ((s.setReg 2 8).clearReg 3).helperInput ∧ ((s.setReg 2 8).clearReg 3).reg (argReg 2) = none ∧
    (∀ i ∈ h.args (s.clearReg 3).helperInput, (s.clearReg 3).reg (argReg i) ≠ none) ∧
    h.reached s.helperInput = .ret (.const 0) [(.const 0x1ff8, .arg 0)] ∧
    (∀ i ∈ h.args (s.setReg 2 8).helperInput, (s.setReg 2 8).reg (argReg i) ≠ none) ∧
    h.reached (s.setReg 2 8).helperInput = .memoryFault (.arg 2) 1 .write .notAdmitted ∧
    (HelperBody.undefined.args s.helperInput = [] ∧ (HelperBody.fault .callDepthExceeded).args s.helperInput = []) := by
  decide

/-- HelperSeesOnlyArgumentsAndMemory: two states that differ in r6, `pc`, the frames and the oracle values. -/
theorem witness_HelperSeesOnlyArgumentsAndMemory :
    let s' := { calledState.setReg 6 0 with pc := 4, oracle := [] }
    s'.helpers = sampleState.helpers ∧ (∀ r ∈ ([1, 2, 3, 4, 5] : List Reg), s'.reg r = sampleState.reg r) ∧
    (∀ a, s'.readByte a = sampleState.readByte a) ∧ (∀ a, s'.helperByte a = sampleState.helperByte a) ∧
    s'.params.hostEndian = sampleState.params.hostEndian ∧ s'.reg 6 ≠ sampleState.reg 6 ∧
    lookup sampleState.helpers 7 = some (.ret (.op .add (.arg 0) (.arg 1)) []) ∧
    (HelperBody.ret (.op .add (.arg 0) (.arg 1)) []).run sampleState.helperInput = .ok (.done 0x1ffb []) :=
  ⟨rfl, by decide, fun _ => rfl, fun _ => rfl, rfl, by decide, by decide, by decide⟩

/-- UndefinedHelperResults: an undefined helper of each kind, with an answer supplied; the answer of the static helper is
not the head of the list, and a second one for it is left. -/
theorem witness_UndefinedHelperResults : lookup sampleState.helpers 11 = some .undefined ∧
    lookup sampleState.btfHelpers 9 = some .undefined ∧
    HelperBody.undefined.run sampleState.helperInput = .ok .undefined ∧
    (∀ i ∈ (sampleState.helperNext .static 11).uses, sampleState.reg (argReg i) ≠ none) ∧
    (sampleState.helperNext .static 11).fails = none ∧ (sampleState.helperNext .btf 9).uses = [] ∧
    (sampleState.helperNext .btf 9).fails = none ∧
    sampleState.helperAnswers.head? = some ((.btf, 9), ⟨[], none, 6, []⟩) ∧
    (sampleState.helperAnswers.filter fun q => decide (q.1 = (.static, 11))) =
      [((.static, 11), sampleAnswer), ((.static, 11), ⟨[1], some .callDepthExceeded, 0, []⟩)] ∧
    (sampleState.helperNext .static 11).writes = [(0x1ff8, 1)] ++ (0x1ff8, 2) :: [] := by decide

/-- HelperCallFaults: unknown identifiers, a definition that faults, an unwritten argument of an undefined helper, and a
fault that its answer raises. -/
theorem witness_HelperCallFaults : lookup sampleState.helpers 8 = none ∧ lookup sampleState.btfHelpers 8 = none ∧
    lookup sampleState.helpers 12 = some (.fault (.framePointerWrite 3)) ∧
    (HelperBody.fault (.framePointerWrite 3)).run sampleState.helperInput = .error (.framePointerWrite 3) ∧
    (0 : Fin 5) ∈ ((sampleState.clearReg 1).helperNext .static 11).uses ∧
    (sampleState.clearReg 1).reg (argReg 0) = none ∧
    (∀ i ∈ ((sampleState.drawHelper .static 11).helperNext .static 11).uses,
      (sampleState.drawHelper .static 11).reg (argReg i) ≠ none) ∧
    ((sampleState.drawHelper .static 11).helperNext .static 11).fails = some .callDepthExceeded := by decide

/-- LoadResults: an aligned double word at the end of the region, a byte at an odd address, and a misaligned access where
that is allowed. -/
theorem witness_LoadResults : sampleState.Writable 2 ∧ sampleState.reg 1 = some 0x1ff8 ∧
    sampleState.Aligned (effectiveAddress 0x1ff8 0) .dw .read ∧
    sampleState.Admitted (effectiveAddress 0x1ff8 0) .dw .read ∧
    sampleState.Private (effectiveAddress 0x1ff8 0) .dw ∧
    sampleState.Aligned (effectiveAddress 0x1ff8 7) .b .read ∧
    sampleState.Admitted (effectiveAddress 0x1ff8 7) .b .read ∧
    sampleState.Private (effectiveAddress 0x1ff8 7) .b ∧
    allowState.Aligned (effectiveAddress 0x1ff8 0xffff) .dw .read ∧
    allowState.Admitted (effectiveAddress 0x1ff8 0xffff) .dw .read ∧
    allowState.Private (effectiveAddress 0x1ff8 0xffff) .dw :=
  ⟨writable (by decide), by decide, by unfold State.Aligned; decide, by unfold State.Admitted; decide,
    by unfold State.Private; decide, by unfold State.Aligned; decide, by unfold State.Admitted; decide,
    by unfold State.Private; decide, by unfold State.Aligned; decide, by unfold State.Admitted; decide,
    by unfold State.Private; decide⟩

/-- StoreResults, StoreThenLoad: the base is r10, the frame pointer, and the load goes to r9, which is unwritten. -/
theorem witness_StoreResults : sampleState.Writable 9 ∧ sampleState.reg 10 = some 0x2000 ∧
    sampleState.reg 2 = some 3 ∧ sampleState.Aligned (effectiveAddress 0x2000 0xfff8) .dw .write ∧
    sampleState.Admitted (effectiveAddress 0x2000 0xfff8) .dw .write ∧
    sampleState.Admitted (effectiveAddress 0x2000 0xfff8) .dw .read ∧
    sampleState.Private (effectiveAddress 0x2000 0xfff8) .dw :=
  ⟨writable (by decide), by decide, by decide, by unfold State.Aligned; decide, by unfold State.Admitted; decide,
    by unfold State.Admitted; decide, by unfold State.Private; decide⟩

/-- AtomicResults, AtomicFetchResults, CompareExchangeResults: an aligned private access. -/
theorem witness_atomics : sampleState.Writable 2 ∧ sampleState.reg 1 = some 0x1ff8 ∧ sampleState.reg 2 = some 3 ∧
    sampleState.reg 0 = some 0 ∧ sampleState.Aligned (effectiveAddress 0x1ff8 0) .dw .atomic ∧
    sampleState.Admitted (effectiveAddress 0x1ff8 0) .dw .atomic ∧
    sampleState.Private (effectiveAddress 0x1ff8 0) .dw ∧
    sampleState.Aligned (effectiveAddress 0x1ff8 4) .w .atomic ∧
    sampleState.Admitted (effectiveAddress 0x1ff8 4) .w .atomic ∧
    sampleState.Private (effectiveAddress 0x1ff8 4) .w :=
  ⟨writable (by decide), by decide, by decide, by decide, by unfold State.Aligned; decide, by unfold State.Admitted; decide,
    by unfold State.Private; decide, by unfold State.Aligned; decide, by unfold State.Admitted; decide,
    by unfold State.Private; decide⟩

/-- SharedLoadResults, SharedAtomicResults: r3 holds an address of shared memory, and an oracle value is supplied. -/
theorem witness_sharedAccess : sampleState.Writable 2 ∧ sampleState.reg 3 = some 0x4008 ∧ sampleState.reg 2 = some 3 ∧
    sampleState.reg 0 = some 0 ∧ sampleState.oracle = 0x1122334455667788 :: [] ∧
    sampleState.Aligned (effectiveAddress 0x4008 0) .dw .atomic ∧
    sampleState.Aligned (effectiveAddress 0x4008 0) .dw .read ∧
    sampleState.Admitted (effectiveAddress 0x4008 0) .dw .atomic ∧
    sampleState.Admitted (effectiveAddress 0x4008 0) .dw .read ∧
    sampleState.Shared (effectiveAddress 0x4008 0) .dw :=
  ⟨writable (by decide), by decide, by decide, by decide, rfl, by unfold State.Aligned; decide,
    by unfold State.Aligned; decide, by unfold State.Admitted; decide, by unfold State.Admitted; decide,
    by unfold State.Shared; decide⟩

/-- MemoryFaults: misaligned by one, aligned but not admitted, and an access whose last byte alone is not admitted. -/
theorem witness_MemoryFaults : sampleState.reg 4 = some 0x1ff9 ∧ sampleState.reg 5 = some 0x9000 ∧
    (∀ q ∈ (Instr.ldxw 2 4 0).reads, sampleState.reg q ≠ none) ∧
    ¬ sampleState.Aligned (effectiveAddress 0x1ff9 0) .w .read ∧
    ¬ allowState.Aligned (effectiveAddress 0x1ff9 0) .w .atomic ∧
    sampleState.Aligned (effectiveAddress 0x9000 0) .dw .write ∧
    ¬ sampleState.Admitted (effectiveAddress 0x9000 0) .dw .write ∧
    ¬ allowState.Admitted (effectiveAddress 0x1ff9 0) .dw .read := by
  unfold State.Aligned State.Admitted; decide

/-- CompareExchangeResults: r0 matches the old value in the second state, and not in the first. -/
theorem witness_CompareExchangeResults : sampleState.reg 1 = some 0x1ff8 ∧ sampleState.reg 2 = some 3 ∧
    sampleState.reg 0 = some 0 ∧ sampleState.load 0x1ff8 .w = 0x55667788 ∧
    (sampleState.setReg 0 0x955667788).reg 0 = some 0x955667788 ∧
    (0x55667788 : Word).toNat = (0x955667788 : Word).toNat % 2 ^ (8 * AccessSize.w.bytes) := by decide

/-- LoadDoubleWordResult, PlatformAddressResults, UnknownPlatformObjects: functions with a value and without one. -/
theorem witness_platform : sampleState.Writable 1 ∧ lookup sampleState.params.mapByFd 3 = some 0x7000 ∧
    lookup sampleState.params.mapVal 0x7000 = some 0x8000 ∧ lookup sampleState.params.varAddr 5 = some 0x9000 ∧
    lookup sampleState.params.codeAddr (sampleState.pc, 2) = some 0xa000 ∧
    lookup sampleState.params.mapByIdx 0 = some 0x7100 ∧ lookup sampleState.params.mapVal 0x7100 = some 0x8100 ∧
    lookup sampleState.params.mapByFd 4 = none ∧ lookup sampleState.params.varAddr 6 = none ∧
    lookup sampleState.params.codeAddr (sampleState.pc, 3) = none ∧ lookup sampleState.params.mapByIdx 1 = none :=
  ⟨writable (by decide), by decide, by decide, by decide, by decide, by decide, by decide, by decide, by decide, by decide,
    by decide⟩

/-- PacketInstructionsStop: a program with a packet instruction at `pc`. -/
theorem witness_PacketInstructionsStop :
    (sampleState.withFetchWord 64 0x0000000e00000020).result = none ∧
    (sampleState.withFetchWord 64 0x0000000e00000020).isStart (sampleState.withFetchWord 64 0x0000000e00000020).pc = true ∧
    (sampleState.withFetchWord 64 0x0000000e00000020).program[(sampleState.withFetchWord 64 0x0000000e00000020).pc]? =
      some ⟨0x20, 0, 0, 0, 0x0e, 0, 0, 0⟩ := by decide

/-- FramePointerWrites: both directions, and a helper that raises the fault. -/
theorem witness_FramePointerWrites : sampleState.params.r10ReadOnly = true ∧
    (Instr.atomicFetchAdd64 1 10 0).destination = some 10 ∧
    exec (.mov64Imm 10 0) sampleState = .fault (.framePointerWrite 1) ∧
    exec (.callHelper 12) sampleState = .fault (.framePointerWrite 3) := ⟨rfl, rfl, rfl, rfl⟩

/-- RegionAdmission: the first and the last double word of a region, one past it, and an atomic access where writes are not
allowed. -/
theorem witness_RegionAdmission : ({ sampleState with params := vectorParams } : State).params.admissions =
      admitRegion 0x1000 0x1000 true true true ∧
    ({ sampleState with params := vectorParams } : State).Admitted 0x1000 .dw .atomic ∧
    ({ sampleState with params := vectorParams } : State).Admitted 0x1ff8 .dw .atomic ∧
    ¬ ({ sampleState with params := vectorParams } : State).Admitted 0x1ff9 .dw .read ∧
    ¬ ({ sampleState with params := { vectorParams with admissions := admitRegion 0x1000 0x1000 true false true } } :
      State).Admitted 0x1ff8 .dw .atomic :=
  ⟨rfl, by unfold State.Admitted; decide, by unfold State.Admitted; decide, by unfold State.Admitted; decide,
    by unfold State.Admitted; decide⟩

/-- UnwrittenReads: r9 is unwritten. -/
theorem witness_UnwrittenReads : (∀ d, (Instr.add64Reg 1 9).destination = some d → sampleState.Writable d) ∧
    (9 : Reg) ∈ (Instr.add64Reg 1 9).reads ∧ sampleState.reg 9 = none :=
  ⟨fun d h => by obtain rfl := Option.some.inj h; exact writable (by decide), by decide, by decide⟩

/-- ArithmeticNeverFaultsOnValues: a division by zero. -/
theorem witness_ArithmeticNeverFaultsOnValues : (Instr.div64Reg 1 0).opcodeClass = 7 ∧
    (∀ d, (Instr.div64Reg 1 0).destination = some d → sampleState.Writable d) ∧
    ∀ r ∈ (Instr.div64Reg 1 0).reads, sampleState.reg r ≠ none :=
  ⟨by decide, fun d h => by obtain rfl := Option.some.inj h; exact writable (by decide), by decide⟩

/-- FetchFaults: the end of the program, a slot that does not decode, and an instruction of an unsupported group. -/
theorem witness_FetchFaults :
    ({ sampleState with pc := 5 } : State).pc = ({ sampleState with pc := 5 } : State).program.length ∧
    (sampleState.withFetchWord 64 0x8f).result = none ∧
    (sampleState.withFetchWord 64 0x8f).isStart 1 = true ∧
    (sampleState.withFetchWord 64 0x8f).program[1]? = some ⟨0x8f, 0, 0, 0, 0, 0, 0, 0⟩ ∧
    decode .little true ⟨0x8f, 0, 0, 0, 0, 0, 0, 0⟩ (sampleState.withFetchWord 64 0x8f).program[2]? =
      .error .undefinedOpcode ∧
    (Instr.ldabsw 14).wellFormed sampleState.params = false := by decide

/-- EncodeDecode, StepRunsTheDecodedInstruction. -/
theorem witness_StepRunsTheDecodedInstruction : sampleState.result = none ∧ sampleState.isStart sampleState.pc = true ∧
    sampleState.program[sampleState.pc]? = some filler ∧
    decode sampleState.params.hostEndian sampleState.params.strictReserved filler sampleState.program[sampleState.pc + 1]? =
      .ok (.mov64Imm 0 0) ∧
    (Instr.mov64Imm 0 0).wellFormed sampleState.params = true := by decide

/-- PlacedInstructionRuns: a wide instruction. -/
theorem witness_PlacedInstructionRuns : decode sampleState.params.hostEndian sampleState.params.strictReserved
      (tableSlots sampleState.params.hostEndian 128 0x11223344000000005566778800000118).1
      (some (tableSlots sampleState.params.hostEndian 128 0x11223344000000005566778800000118).2) =
        .ok (.lddw 1 0x55667788 0x11223344) ∧
    (Instr.lddw 1 0x55667788 0x11223344).wellFormed sampleState.params = true := by decide

/-- InvariantIsKept: a state that has the invariant, inside a called function, and takes a step. -/
theorem witness_InvariantIsKept : calledState.Inv ∧
    step calledState = .next ((calledState.setReg 0 0).advance 1) := by
  refine ⟨⟨by decide, by decide, .inl (by decide), ?_⟩, rfl⟩
  intro f hf
  obtain rfl := List.mem_singleton.1 hf
  exact .inl (by decide)

/-- ProgramAndParametersAreFixed, RegistersWrittenByAnInstruction, SequentialControl, MemoryIsConfined: an instruction with a
next state that changes a byte of memory. -/
theorem witness_nextState : ∃ t, exec (.stxb 1 2 0) sampleState = .next t ∧ (¬ (Instr.stxb 1 2 0).callsHelper) ∧
    t.readByte 0x1ff8 ≠ sampleState.readByte 0x1ff8 ∧ (Instr.stxb 1 2 0).opcodeClass ≠ 5 ∧
    (Instr.stxb 1 2 0).opcodeClass ≠ 6 ∧ Instr.stxb 1 2 0 ≠ .exit ∧ sampleState.params.r10ReadOnly = true :=
  ⟨_, rfl, (by rintro ⟨_, h | h⟩ <;> cases h), by decide, by decide, by decide, by decide, rfl⟩

/-- The second clause of SequentialControl: a helper call. -/
theorem witness_helperContinues : (Instr.callHelper 7).callsHelper ∧
    exec (.callHelper 7) sampleState = .next (sampleState.drawSnapshot.helperReturn 0x1ffb []) :=
  ⟨⟨7, .inl rfl⟩, rfl⟩

end Sys2Proof.Tests
end

section
/-! SUPPORT. What every next state of an instruction keeps of the state before it, read off `exec_shape`: the program
text and the parameters, the registers that it does not write, and where control goes. -/

namespace Sys2Proof

/-! ## The length of an instruction -/

/-- A wide instruction is one whose opcode byte is 0x18 (30_encoding.md R48). -/
theorem Instr.slots_eq (i : Instr) : i.slots = if isWideOpcode i.encodeFields.1.opcode then 2 else 1 := by
  have h : Laws.EncodedLength.Statement i := by cases i <;> rfl
  rw [Instr.slots, show i.encodeFields.2.isSome = _ from h]

/-- The wide instructions are of class LD. -/
theorem Instr.slots_eq_one (i : Instr) (h : i.opcodeClass ≠ 0) : i.slots = 1 := by
  rw [Instr.slots_eq, if_neg]
  intro hw
  rw [isWideOpcode, beq_iff_eq] at hw
  exact h (by rw [Instr.opcodeClass, hw]; decide)

/-- Jumps, local calls and `exit`: classes JMP and JMP32 without the helper calls. -/
def Instr.Transfers (i : Instr) : Prop := (i.opcodeClass = 5 ∨ i.opcodeClass = 6) ∧ ¬ i.callsHelper

theorem Instr.transfers_callLocal (imm : Word32) : (Instr.callLocal imm).Transfers :=
  ⟨.inl (by simp [Instr.opcodeClass, Instr.encodeFields]), by rintro ⟨_, h | h⟩ <;> cases h⟩

theorem Instr.transfers_exit : Instr.exit.Transfers :=
  ⟨.inl (by simp [Instr.opcodeClass, Instr.encodeFields]), by rintro ⟨_, h | h⟩ <;> cases h⟩

end Sys2Proof

namespace Sys2Proof.Machine

section

variable {i : Instr} {s t : State}

/-! ## Program text and parameters -/

theorem NextShape.keepsParameters (h : NextShape i s t) : KeepsParameters s t := by
  unfold KeepsParameters
  match h with
  | .register _ _ _ _ _ _ _ ht => simp [ht]
  | .jump _ _ _ _ _ _ _ _ _ ht => simp [ht]
  | .load _ _ _ _ _ _ _ _ ht => simp [ht]
  | .store _ _ _ _ _ _ _ _ ht => simp [ht]
  | .modify _ _ _ _ _ _ ht => simp [ht]
  | .fetch _ _ _ _ _ _ _ _ _ _ ht => simp [ht]
  | .exchange _ _ _ _ stores _ _ _ _ ht => cases stores <;> simp [ht]
  | .call _ _ _ _ _ ht => simp [ht]
  | .helper _ _ _ _ _ ht => rcases ht with ht | ht <;> simp [ht]
  | .done _ _ _ ht => simp [ht]
  | .return _ _ _ _ ht => simp [ht]

/-! ## Data memory -/

/-- The canonical form of data memory is kept (10_state.md R15). -/
theorem NextShape.wf_mem (h : NextShape i s t) (hm : Memory.wf s.mem = true) : Memory.wf t.mem = true := by
  match h with
  | .register _ _ _ _ _ _ _ ht => simpa [ht] using hm
  | .jump _ _ _ _ _ _ _ _ _ ht => simpa [ht] using hm
  | .load _ _ _ _ _ _ _ _ ht => simpa [ht] using hm
  | .store _ _ _ _ _ _ _ _ ht => simpa [ht] using wf_writeBytes _ _ _ hm
  | .modify _ _ _ _ _ _ ht => simpa [ht] using wf_writeBytes _ _ _ hm
  | .fetch _ _ _ _ _ _ _ _ _ _ ht => simpa [ht] using wf_writeBytes _ _ _ hm
  | .exchange _ _ _ _ stores _ _ _ _ ht =>
    cases stores with
    | false => simpa [ht] using hm
    | true => simpa [ht] using wf_writeBytes _ _ _ hm
  | .call _ _ _ _ _ ht => simpa [ht] using hm
  | .helper _ _ _ _ _ ht => rcases ht with ht | ht <;> simpa [ht] using wf_writeCells _ _ hm
  | .done _ _ _ ht => simpa [ht] using hm
  | .return _ _ _ _ ht => simpa [ht] using hm

/-! ## Registers -/

/-- The registers that an instruction writes in a step from `s` to `t` (10_state.md R20; 60_exceptions.md R289). -/
inductive RegistersWritten (i : Instr) (s t : State) : Prop
  | nothing (h : KeepsRegsBut [] s t)
  | destination (d : Reg) (hd : i.destination = some d) (hw : s.Writable d) (h : KeepsRegsBut [d] s t)
  /-- r0 of compare and exchange (44_atomic.md R241). -/
  | exchange (hi : ∃ d q off, i = .atomicCmpxchg32 d q off ∨ i = .atomicCmpxchg64 d q off) (h : KeepsRegsBut [0] s t)
  /-- The result and the arguments of a helper (42_jump.md R211). -/
  | helper (hi : i.callsHelper) (h : KeepsRegsBut [0, 1, 2, 3, 4, 5] s t)
  /-- A local call may change every register. -/
  | call (imm : Word32) (hi : i = .callLocal imm)
  /-- So may `exit`. -/
  | exit (hi : i = .exit)

theorem keepsRegsBut_setReg {u : State} (h : ∀ q, u.reg q = s.reg q) (d : Reg) (v : Word) :
    KeepsRegsBut [d] s (u.setReg d v) := by
  intro r hr
  rw [State.reg_setReg, if_neg (by simpa using hr), h]

theorem keepsRegsBut_helperReturn {u : State} (h : ∀ q, u.reg q = s.reg q) (v : Word) (ws : List (Word × Byte)) :
    KeepsRegsBut [0, 1, 2, 3, 4, 5] s (u.helperReturn v ws) := by
  intro r hr
  obtain ⟨h0, h5⟩ : r ≠ 0 ∧ ¬ r.val ≤ 5 := by revert r; decide
  rw [State.reg_helperReturn, if_neg h0, if_neg h5, h]

theorem NextShape.registersWritten (h : NextShape i s t) : RegistersWritten i s t := by
  match h with
  | .register _ d v _ _ hd hw ht =>
    exact .destination d hd hw (by rw [ht]; exact keepsRegsBut_setReg (fun _ => rfl) d v)
  | .jump _ _ _ _ _ _ _ _ _ ht => exact .nothing (by rw [ht]; exact fun _ _ => rfl)
  | .load ea n d v _ _ hd hw ht =>
    exact .destination d hd hw (by rw [ht]; exact keepsRegsBut_setReg (s.afterLoad_reg ea n) d v)
  | .store _ _ _ _ _ _ _ _ ht => exact .nothing (by rw [ht]; exact fun _ _ => rfl)
  | .modify ea n _ _ _ _ ht => exact .nothing (by rw [ht]; exact fun r _ => s.afterLoad_reg ea n r)
  | .fetch ea n _ d w _ _ _ hd hw ht =>
    exact .destination d hd hw (by rw [ht]; exact keepsRegsBut_setReg (s.afterLoad_reg ea n) d w)
  | .exchange ea n _ w stores _ _ _ hi ht =>
    refine .exchange hi ?_
    cases stores <;> (rw [ht]; exact keepsRegsBut_setReg (s.afterLoad_reg ea n) 0 w)
  | .call imm _ hi _ _ _ => exact .call imm hi
  | .helper _ imm v ws hi ht =>
    refine .helper ⟨imm, hi⟩ ?_
    rcases ht with ht | ht <;> (rw [ht]; exact keepsRegsBut_helperReturn (fun _ => rfl) v ws)
  | .done _ hi _ _ => exact .exit hi
  | .return _ _ hi _ _ => exact .exit hi

/-- Without a call or `exit`, a register that is neither the destination nor r0 of CMPXCHG is as before. -/
theorem RegistersWritten.reg_eq (h : RegistersWritten i s t) (hh : ¬ i.callsHelper) (hl : ∀ imm, i ≠ .callLocal imm)
    (he : i ≠ .exit) {r : Reg} (hd : i.destination ≠ some r)
    (hx : r = 0 → ∀ d q off, i ≠ .atomicCmpxchg32 d q off ∧ i ≠ .atomicCmpxchg64 d q off) : t.reg r = s.reg r := by
  cases h with
  | nothing hk => exact hk r (by simp)
  | destination d hd' _ hk =>
    have hr : r ≠ d := fun e => hd (e ▸ hd')
    exact hk r (by simpa using hr)
  | exchange hi hk =>
    have hr : r ≠ 0 := by
      intro h0
      obtain ⟨d, q, off, hi | hi⟩ := hi
      exacts [(hx h0 d q off).1 hi, (hx h0 d q off).2 hi]
    exact hk r (by simpa using hr)
  | helper hi => exact absurd hi hh
  | call imm hi => exact absurd hi (hl imm)
  | exit hi => exact absurd hi he

/-- A read-only r10 is changed by local calls and `exit` only (10_state.md R20). -/
theorem RegistersWritten.reg_ten (h : RegistersWritten i s t) (ro : s.params.r10ReadOnly = true)
    (hl : ∀ imm, i ≠ .callLocal imm) (he : i ≠ .exit) : t.reg 10 = s.reg 10 := by
  cases h with
  | nothing hk => exact hk 10 (by simp)
  | destination d _ hw hk =>
    have hd : (10 : Reg) ≠ d := by rintro rfl; simp [hw rfl] at ro
    exact hk 10 (by simpa using hd)
  | exchange _ hk => exact hk 10 (by decide)
  | helper _ hk => exact hk 10 (by decide)
  | call imm hi => exact absurd hi (hl imm)
  | exit hi => exact absurd hi he

/-! ## Control -/

/-- Where control goes in a step from `s` to `t` (10_state.md R23, R29). -/
inductive ControlFlow (i : Instr) (s t : State) : Prop
  | next (hf : t.frames = s.frames) (hp : t.pc = s.pc + i.slots)
  /-- A jump is taken (42_jump.md R158, R159). -/
  | jump (hi : i.Transfers) (hf : t.frames = s.frames) (hp : s.isStart t.pc = true)
  /-- A local call pushes a frame that returns to the slot after it (42_jump.md R214). -/
  | call (imm : Word32) (hi : i = .callLocal imm) (hd : s.frames.length < s.params.maxCallDepth)
      (hf : t.frames = s.frame :: s.frames) (hp : s.isStart t.pc = true)
  /-- `exit` pops a frame and goes to its return slot (42_jump.md R216). -/
  | leave (hi : i = .exit) (f : Frame) (hf : s.frames = f :: t.frames) (hp : t.pc = f.retPc)
  /-- `exit` without a frame ends the run (70_reset_and_hazards.md R310). -/
  | done (hi : i = .exit) (hf : t.frames = s.frames) (hp : t.pc = s.pc)

theorem NextShape.controlFlow (h : NextShape i s t) : ControlFlow i s t := by
  match h with
  | .register _ _ _ _ _ _ _ ht => exact .next (by simp [ht]) (by simp [ht])
  | .jump c k hc hm hk h1 h2 _ _ ht =>
    have hi : i.Transfers := ⟨hc ▸ hm, by rintro ⟨imm, h | h⟩; exacts [h1 imm h, h2 imm h]⟩
    have hs : i.slots = 1 := i.slots_eq_one (by rcases hm with rfl | rfl <;> simp [hc])
    rcases hk with hk | hk
    · exact .jump hi (by simp [ht]) (by simpa [ht] using hk)
    · exact .next (by simp [ht]) (by simp [ht, hk, hs])
  | .load _ _ _ _ _ hs _ _ ht => exact .next (by simp [ht]) (by simp [ht, hs])
  | .store _ _ _ _ _ _ hs _ ht => exact .next (by simp [ht]) (by simp [ht, hs])
  | .modify _ _ _ _ hs _ ht => exact .next (by simp [ht]) (by simp [ht, hs])
  | .fetch _ _ _ _ _ _ hs _ _ _ ht => exact .next (by simp [ht]) (by simp [ht, hs])
  | .exchange _ _ _ _ stores _ hs _ _ ht =>
    cases stores <;> exact .next (by simp [ht]) (by simp [ht, hs])
  | .call imm k hi hd hk ht => exact .call imm hi hd (by simp [ht]) (by simpa [ht] using hk)
  | .helper _ _ _ _ hi ht =>
    have hs : i.slots = 1 := by rcases hi with rfl | rfl <;> rfl
    rcases ht with ht | ht <;> exact .next (by simp [ht]) (by simp [ht, hs])
  | .done _ hi _ ht => exact .done hi (by simp [ht]) (by simp [ht])
  | .return f _ hi hf ht => exact .leave hi f (by simp [ht, hf]) (by simp [ht])

/-- Only local calls and `exit` change the call stack (10_state.md R29). -/
theorem ControlFlow.frames_eq (h : ControlFlow i s t) (hl : ∀ imm, i ≠ .callLocal imm) (he : i ≠ .exit) :
    t.frames = s.frames := by
  cases h with
  | next hf _ => exact hf
  | jump _ hf _ => exact hf
  | call imm hi => exact absurd hi (hl imm)
  | leave hi => exact absurd hi he
  | done hi => exact absurd hi he

/-- An instruction that is no jump, local call or `exit` is followed by the slot after it (10_state.md R23). -/
theorem ControlFlow.pc_eq (h : ControlFlow i s t) (hi : ¬ i.Transfers) : t.pc = s.pc + i.slots := by
  cases h with
  | next _ hp => exact hp
  | jump hj => exact absurd hj hi
  | call imm hc => exact absurd (hc ▸ Instr.transfers_callLocal imm) hi
  | leave he => exact absurd (he ▸ Instr.transfers_exit) hi
  | done he => exact absurd (he ▸ Instr.transfers_exit) hi

end

/-! ## The statements -/

/-- Settles O56: each shape of a next state has the same program, parameters and helper definitions. -/
theorem programAndParametersAreFixed : Obligations.ProgramAndParametersAreFixed :=
  fun i s t h => (exec_shape i s t h).keepsParameters

/-- Settles O57: the registers written are none, the destination or r0 of CMPXCHG, where no helper is called. -/
theorem registersWrittenByAnInstruction : Obligations.RegistersWrittenByAnInstruction := by
  intro i s t h
  have hw := (exec_shape i s t h).registersWritten
  have hf := (exec_shape i s t h).controlFlow
  exact ⟨fun hh hl he => ⟨fun r hr hx => hw.reg_eq hh hl he hr hx, hf.frames_eq hl he⟩,
    fun ro hl he => hw.reg_ten ro hl he⟩

/-- Settles O60: the premise says that the instruction does not transfer control. -/
theorem sequentialControl : Obligations.SequentialControl := by
  intro i s t h hi
  refine (exec_shape i s t h).controlFlow.pc_eq ?_
  rintro ⟨hc, hh⟩
  rcases hi with ⟨h5, h6⟩ | hi
  · exact hc.elim h5 h6
  · exact hh hi

end Sys2Proof.Machine
end

section
/-! SUPPORT. What the fetch says of the slots at `pc`, and the invariant of a run. -/

namespace Sys2Proof

/-! ## The opcode byte of a decoded instruction -/

/-- Every instruction that a format makes has the opcode byte `o`. -/
def Format.HasOpcode (o : BitVec 8) : Format → Prop
  | .aluK mk => ∀ d imm, (mk d imm).encodeFields.1.opcode = o
  | .aluX mk => ∀ d s, (mk d s).encodeFields.1.opcode = o
  | .neg mk => ∀ d, (mk d).encodeFields.1.opcode = o
  | .byteSwap mk => ∀ d, (mk d).encodeFields.1.opcode = o
  | .ja mk => ∀ off, (mk off).encodeFields.1.opcode = o
  | .ja32 mk => ∀ imm, (mk imm).encodeFields.1.opcode = o
  | .jmpK mk => ∀ d imm off, (mk d imm off).encodeFields.1.opcode = o
  | .jmpX mk => ∀ d s off, (mk d s off).encodeFields.1.opcode = o
  | .call mk => ∀ imm, (mk imm).encodeFields.1.opcode = o
  | .exit mk => mk.encodeFields.1.opcode = o
  | .ldx mk => ∀ d s off, (mk d s off).encodeFields.1.opcode = o
  | .st mk => ∀ d off imm, (mk d off imm).encodeFields.1.opcode = o
  | .stx mk => ∀ d s off, (mk d s off).encodeFields.1.opcode = o
  | .atomic mk => ∀ d s off, (mk d s off).encodeFields.1.opcode = o
  | .imm64 mk => ∀ d imm, (mk d imm).encodeFields.1.opcode = o
  | .imm64Next mk => ∀ d imm next, (mk d imm next).encodeFields.1.opcode = o
  | .ldAbs mk => ∀ imm, (mk imm).encodeFields.1.opcode = o
  | .ldInd mk => ∀ s imm, (mk s imm).encodeFields.1.opcode = o

theorem Format.opcode_of_build {o : BitVec 8} {p : Format} (hp : p.HasOpcode o) {f : Fields} {next : Word32} {i : Instr}
    (h : p.build f next = some i) : i.encodeFields.1.opcode = o := by
  cases p <;> simp only [Format.build, Option.map_eq_some_iff, Option.bind_eq_some_iff, Option.some.injEq] at h
  case exit => rw [← h]; exact hp
  case ja | ja32 | call | ldAbs => rw [← h]; exact hp _
  case neg | byteSwap => obtain ⟨d, _, rfl⟩ := h; exact hp d
  case aluK | imm64 | ldInd => obtain ⟨d, _, rfl⟩ := h; exact hp d _
  case jmpK | st | imm64Next => obtain ⟨d, _, rfl⟩ := h; exact hp d _ _
  case aluX => obtain ⟨d, _, r, _, rfl⟩ := h; exact hp d r
  case jmpX | ldx | stx | atomic => obtain ⟨d, _, r, _, rfl⟩ := h; exact hp d r _

/-- Each row of the opcode map makes instructions with its own opcode byte (30_encoding.md R62). -/
theorem opcodeRows_hasOpcode : ∀ r ∈ opcodeRows, r.format.HasOpcode r.opcode := by
  simp only [opcodeRows, List.forall_mem_append, opcodeRowsAlu64, opcodeRowsAlu32, opcodeRowsByteSwap,
    opcodeRowsControl, opcodeRowsJump64, opcodeRowsJump32, opcodeRowsLoadStore, opcodeRowsAtomic32,
    opcodeRowsAtomic64, opcodeRowsImm64, opcodeRowsPacket, List.forall_mem_cons, List.not_mem_nil, false_imp_iff,
    implies_true, and_true, Format.HasOpcode]
  and_intros <;> intros <;> rfl

theorem OpcodeRow.build_of_finish {strict : Bool} {f g : Fields} {r : OpcodeRow} {i : Instr}
    (h : r.finish strict f g = .ok i) : r.format.build f g.imm = some i := by
  unfold OpcodeRow.finish at h
  split at h
  · cases h
  · split at h
    · cases h
    · rwa [← Except.ok.inj h]

/-- Decoding succeeds through one row of the opcode map, and for a wide opcode only with a second slot
(30_encoding.md R61). -/
theorem row_of_decodeFields {strict : Bool} {f : Fields} {g : Option Fields} {i : Instr}
    (h : decodeFields strict f g = .ok i) :
    (∃ r ∈ opcodeRows, f.opcode = r.opcode ∧ ∃ next, r.format.build f next = some i) ∧
      (isWideOpcode f.opcode = true → g ≠ none) := by
  unfold decodeFields at h
  split at h
  case h_1 => split at h <;> cases h
  case h_2 r hr =>
    have hs : f.opcode = r.opcode := by
      have := List.find?_some hr
      simp only [OpcodeRow.selects, Bool.and_eq_true, beq_iff_eq] at this
      exact this.1
    have hm := List.mem_of_find?_eq_some hr
    by_cases hw : isWideOpcode f.opcode = true
    · cases g with
      | none => simp [hw] at h
      | some g =>
        rw [if_pos hw] at h
        exact ⟨⟨r, hm, hs, _, OpcodeRow.build_of_finish h⟩, by simp⟩
    · rw [if_neg hw] at h
      exact ⟨⟨r, hm, hs, _, OpcodeRow.build_of_finish h⟩, fun hw' => absurd hw' hw⟩

@[simp] theorem Slot.fields_opcode (e : HostEndian) (x : Slot) : (x.fields e).opcode = x.b0 := by cases e <;> rfl

/-- A decoded instruction has the opcode byte of its slot (30_encoding.md R49, R62). -/
theorem decode_opcode {e : HostEndian} {strict : Bool} {x : Slot} {y : Option Slot} {i : Instr}
    (h : decode e strict x y = .ok i) : i.encodeFields.1.opcode = x.b0 := by
  obtain ⟨⟨r, hm, hs, _, hb⟩, _⟩ := row_of_decodeFields h
  rw [Format.opcode_of_build (opcodeRows_hasOpcode r hm) hb, ← hs, Slot.fields_opcode]

/-- A wide instruction decodes only with a second slot (30_encoding.md R66). -/
theorem decode_second_slot {e : HostEndian} {strict : Bool} {x : Slot} {y : Option Slot} {i : Instr}
    (h : decode e strict x y = .ok i) (hw : isWideOpcode x.b0 = true) : ∃ z, y = some z := by
  have hy := (row_of_decodeFields h).2 (by simpa using hw)
  cases y with
  | none => exact absurd rfl hy
  | some z => exact ⟨z, rfl⟩

end Sys2Proof

namespace Sys2Proof.Machine

/-! ## Sequential decoding of the program text (42_jump.md R159) -/

/-- From the first slot of an instruction on, the rest of the program is decoded as a program of its own. -/
theorem startsAt_add (p : List Slot) (second : Bool) (t k : Nat) (h : startsAt p second t = true) :
    startsAt p second (t + k) = startsAt (p.drop t) false k := by
  induction p generalizing second t with
  | nil => simp [startsAt] at h
  | cons x xs ih =>
    cases t with
    | zero =>
      obtain rfl : second = false := by simpa [startsAt] using h
      simp
    | succ t =>
      rw [Nat.add_right_comm]
      exact ih _ t h

theorem startsAt_zero (p : List Slot) (h : p ≠ []) : startsAt p false 0 = true := by
  cases p with
  | nil => exact absurd rfl h
  | cons x xs => rfl

section

variable {s t : State} {i : Instr}

/-- Execution may go on at a slot index from which the rest of the program is decoded on its own. -/
theorem State.reachable_of_startsAt_drop {k : Nat} (hk : k ≤ s.program.length)
    (h : s.isStart k = startsAt (s.program.drop k) false 0) : s.Reachable k := by
  by_cases he : k = s.program.length
  · exact .inr he
  · refine .inl (h.trans (startsAt_zero _ fun hn => ?_))
    have := List.drop_eq_nil_iff.1 hn
    omega

/-- The slot after a basic instruction is the first of the next one, or the end. -/
theorem State.reachable_basic {x : Slot} (h : s.isStart s.pc = true) (hx : s.program[s.pc]? = some x)
    (hw : isWideOpcode x.b0 = false) : s.Reachable (s.pc + 1) := by
  obtain ⟨hl, rfl⟩ := List.getElem?_eq_some_iff.1 hx
  refine State.reachable_of_startsAt_drop hl ?_
  rw [State.isStart, startsAt_add _ _ _ _ h, List.drop_eq_getElem_cons hl]
  rw [isWideOpcode] at hw
  simp only [startsAt, hw, Bool.and_false]

/-- The slot after the two of a wide instruction is the first of the next one, or the end. -/
theorem State.reachable_wide {x y : Slot} (h : s.isStart s.pc = true) (hx : s.program[s.pc]? = some x)
    (hy : s.program[s.pc + 1]? = some y) (hw : isWideOpcode x.b0 = true) : s.Reachable (s.pc + 2) := by
  obtain ⟨hl, rfl⟩ := List.getElem?_eq_some_iff.1 hx
  obtain ⟨hl', rfl⟩ := List.getElem?_eq_some_iff.1 hy
  refine State.reachable_of_startsAt_drop hl' ?_
  rw [State.isStart, startsAt_add _ _ _ _ h, List.drop_eq_getElem_cons hl, List.drop_eq_getElem_cons hl']
  rw [isWideOpcode] at hw
  simp only [startsAt, hw, Bool.and_true, Bool.not_false, Bool.not_true, Bool.false_and]

/-! ## The fetch and the step -/

/-- The fetch gives an instruction where `pc` is a first slot that decodes to it and its group is supported
(30_encoding.md R61; 60_exceptions.md R296). -/
theorem State.fetch_eq_ok : s.fetch = .ok i ↔ s.isStart s.pc = true ∧ ∃ x, s.program[s.pc]? = some x ∧
    decode s.params.hostEndian s.params.strictReserved x s.program[s.pc + 1]? = .ok i ∧
      i.wellFormed s.params = true := by
  unfold State.fetch
  by_cases hs : s.isStart s.pc = true
  case neg => simp [hs]
  rw [if_pos hs]
  cases hx : s.program[s.pc]? with
  | none => simp
  | some x =>
    cases hd : decode s.params.hostEndian s.params.strictReserved x s.program[s.pc + 1]? with
    | error e => simp only [hd, Option.some.injEq, exists_eq_left', reduceCtorEq, false_and, and_false]
    | ok j =>
      by_cases hw : j.wellFormed s.params = true
      · simp only [hw, if_true, hs, hd, Except.ok.injEq, Option.some.injEq, true_and, exists_eq_left']
        exact ⟨fun e => ⟨e, e ▸ hw⟩, And.left⟩
      · simp only [hw, hs, hd, Except.ok.injEq, Option.some.injEq, true_and, exists_eq_left']
        exact ⟨nofun, fun ⟨e, hi⟩ => absurd (e ▸ hi) hw⟩

/-- A step executes the instruction that is fetched, in a run that has not ended (60_exceptions.md R286). -/
theorem step_eq_next : step s = .next t ↔ s.result = none ∧ ∃ i, s.fetch = .ok i ∧ exec i s = .next t := by
  unfold step
  cases s.result with
  | some v => simp
  | none => cases s.fetch <;> simp

/-- Behind an instruction that is fetched stands the next one, or the end of the program. -/
theorem State.reachable_of_fetch (h : s.fetch = .ok i) : s.Reachable (s.pc + i.slots) := by
  obtain ⟨hs, x, hx, hd, _⟩ := State.fetch_eq_ok.1 h
  rw [Instr.slots_eq, decode_opcode hd]
  by_cases hw : isWideOpcode x.b0 = true
  · obtain ⟨y, hy⟩ := decode_second_slot hd hw
    rw [if_pos hw]
    exact State.reachable_wide hs hx hy hw
  · rw [if_neg hw]
    exact State.reachable_basic hs hx (by simpa using hw)

/-! ## The invariant -/

theorem State.Reachable.of_program_eq {k : Nat} (h : s.Reachable k) (hp : t.program = s.program) : t.Reachable k := by
  unfold State.Reachable State.isStart at *
  rwa [hp]

/-- The part of the invariant that concerns control, by the ways in which control goes on. -/
theorem ControlFlow.keeps_reachable (h : ControlFlow i s t) (hn : s.Reachable (s.pc + i.slots))
    (hd : s.frames.length ≤ s.params.maxCallDepth) (hpc : s.Reachable s.pc) (hf : ∀ f ∈ s.frames, s.Reachable f.retPc) :
    t.frames.length ≤ s.params.maxCallDepth ∧ s.Reachable t.pc ∧ ∀ f ∈ t.frames, s.Reachable f.retPc := by
  cases h with
  | next hf' hp => rw [hf', hp]; exact ⟨hd, hn, hf⟩
  | jump _ hf' hp => rw [hf']; exact ⟨hd, .inl hp, hf⟩
  | call imm hi hd' hf' hp =>
    have hr : s.Reachable s.frame.retPc := by rw [hi] at hn; exact hn
    rw [hf']
    exact ⟨hd', .inl hp, List.forall_mem_cons.2 ⟨hr, hf⟩⟩
  | leave _ f hf' hp =>
    rw [hf'] at hd hf
    obtain ⟨hr, hf⟩ := List.forall_mem_cons.1 hf
    exact ⟨Nat.le_of_succ_le hd, hp ▸ hr, hf⟩
  | done _ hf' hp => rw [hf', hp]; exact ⟨hd, hpc, hf⟩

/-- An instruction keeps the invariant where the slot after it is the first of an instruction or the end. -/
theorem exec_keeps_inv (h : exec i s = .next t) (hn : s.Reachable (s.pc + i.slots)) (hinv : s.Inv) : t.Inv := by
  obtain ⟨hm, hd, hpc, hf⟩ := hinv
  have hs := exec_shape i s t h
  obtain ⟨hparams, _, _, hprog⟩ := hs.keepsParameters
  obtain ⟨hd', hpc', hf'⟩ := hs.controlFlow.keeps_reachable hn hd hpc hf
  exact ⟨hs.wf_mem hm, hparams ▸ hd', hpc'.of_program_eq hprog, fun f hmem => (hf' f hmem).of_program_eq hprog⟩

end

/-- Settles O55: a step executes the instruction that is fetched, and the slot after that one is reachable. -/
theorem invariantIsKept : Obligations.InvariantIsKept := by
  intro s t hinv h
  obtain ⟨_, i, hi, hx⟩ := step_eq_next.1 h
  exact exec_keeps_inv hx (State.reachable_of_fetch hi) hinv

end Sys2Proof.Machine
end

section
/-! SUPPORT. An instruction that reads an unwritten register faults before its own checks. -/

namespace Sys2Proof.Machine

/-- Where one of the registers `rs` is unwritten, the outcome is the fault of an unwritten one among them
(10_state.md R21; 60_exceptions.md R290). -/
def UnwrittenFaults (rs : List Reg) (s : State) (o : Host.Outcome State Fault Refusal) : Prop :=
  ∀ r ∈ rs, s.reg r = none → ∃ q ∈ rs, s.reg q = none ∧ o = .fault (.uninitRegister q)

namespace UnwrittenFaults

variable {rs : List Reg} {s : State} {o : Host.Outcome State Fault Refusal}

/-! ## The parts of a computation -/

theorem nil : UnwrittenFaults [] s o := fun _ h => absurd h List.not_mem_nil

theorem read {d : Reg} {k : Word → Except Fault State} (h : ∀ v, UnwrittenFaults rs s (commit (k v))) :
    UnwrittenFaults (d :: rs) s (commit (s.readReg d >>= k)) := by
  intro r hr hn
  cases hd : s.reg d with
  | none =>
    have he : s.readReg d = .error (.uninitRegister d) := (s.readReg_eq_error d _).2 ⟨hd, rfl⟩
    exact ⟨d, List.mem_cons_self, hd, by rw [he]; rfl⟩
  | some v =>
    have he : s.readReg d = .ok v := (s.readReg_eq_ok d v).2 hd
    have hrs : r ∈ rs := (List.mem_cons.1 hr).resolve_left fun e => by simp [e, hd] at hn
    obtain ⟨q, hq, hqn, hf⟩ := h v r hrs hn
    exact ⟨q, List.mem_cons_of_mem d hq, hqn, by rw [he]; exact hf⟩

theorem checkDest {d : Reg} {k : Unit → Except Fault State} (hw : s.Writable d)
    (h : UnwrittenFaults rs s (commit (k ()))) : UnwrittenFaults rs s (commit (s.checkDest d >>= k)) := by
  rw [(s.checkDest_eq_ok d ()).2 hw]
  exact h

/-! ## The shapes of meaning -/

theorem alu64Imm (f : Word → Word → Word) (d : Reg) (imm : Word32) (hw : s.Writable d) :
    UnwrittenFaults [d] s (commit (alu64Imm f d imm s)) := checkDest hw (read fun _ => nil)

theorem alu32Imm (f : Word32 → Word32 → Word32) (d : Reg) (imm : Word32) (hw : s.Writable d) :
    UnwrittenFaults [d] s (commit (alu32Imm f d imm s)) := checkDest hw (read fun _ => nil)

theorem alu64Reg (f : Word → Word → Word) (d r : Reg) (hw : s.Writable d) :
    UnwrittenFaults [d, r] s (commit (alu64Reg f d r s)) := checkDest hw (read fun _ => read fun _ => nil)

theorem alu32Reg (f : Word32 → Word32 → Word32) (d r : Reg) (hw : s.Writable d) :
    UnwrittenFaults [d, r] s (commit (alu32Reg f d r s)) := checkDest hw (read fun _ => read fun _ => nil)

theorem unary (f : Word → Word) (d : Reg) (hw : s.Writable d) :
    UnwrittenFaults [d] s (commit (unary f d s)) := checkDest hw (read fun _ => nil)

theorem moveReg (f : Word → Word) (d r : Reg) (hw : s.Writable d) :
    UnwrittenFaults [r] s (commit (moveReg f d r s)) := checkDest hw (read fun _ => nil)

theorem jump64Imm (c : Word → Word → Bool) (d : Reg) (imm : Word32) (off : BitVec 16) :
    UnwrittenFaults [d] s (commit (jump64Imm c d imm off s)) := read fun _ => nil

theorem jump32Imm (c : Word32 → Word32 → Bool) (d : Reg) (imm : Word32) (off : BitVec 16) :
    UnwrittenFaults [d] s (commit (jump32Imm c d imm off s)) := read fun _ => nil

theorem jump64Reg (c : Word → Word → Bool) (d r : Reg) (off : BitVec 16) :
    UnwrittenFaults [d, r] s (commit (jump64Reg c d r off s)) := read fun _ => read fun _ => nil

theorem jump32Reg (c : Word32 → Word32 → Bool) (d r : Reg) (off : BitVec 16) :
    UnwrittenFaults [d, r] s (commit (jump32Reg c d r off s)) := read fun _ => read fun _ => nil

theorem loadInto (n : AccessSize) (ext : Word → Word) (d r : Reg) (off : BitVec 16) (hw : s.Writable d) :
    UnwrittenFaults [r] s (commit (loadInto n ext d r off s)) := checkDest hw (read fun _ => nil)

theorem storeImm (n : AccessSize) (d : Reg) (off : BitVec 16) (imm : Word32) :
    UnwrittenFaults [d] s (commit (storeImm n d off imm s)) := read fun _ => nil

theorem storeReg (n : AccessSize) (d r : Reg) (off : BitVec 16) :
    UnwrittenFaults [d, r] s (commit (storeReg n d r off s)) := read fun _ => read fun _ => nil

theorem atomicModify (n : AccessSize) (f : Word → Word → Word) (d r : Reg) (off : BitVec 16) :
    UnwrittenFaults [d, r] s (commit (atomicModify n f d r off s)) := read fun _ => read fun _ => nil

theorem atomicFetch (n : AccessSize) (f : Word → Word → Word) (d r : Reg) (off : BitVec 16) (hw : s.Writable r) :
    UnwrittenFaults [d, r] s (commit (atomicFetch n f d r off s)) :=
  checkDest hw (read fun _ => read fun _ => nil)

theorem atomicCompareExchange (n : AccessSize) (d r : Reg) (off : BitVec 16) :
    UnwrittenFaults [d, r, 0] s (commit (atomicCompareExchange n d r off s)) :=
  read fun _ => read fun _ => read fun _ => nil

theorem leaveFunction : UnwrittenFaults [0] s (commit s.leaveFunction) := by
  intro r hr hn
  obtain rfl := List.mem_singleton.1 hr
  refine ⟨0, List.mem_singleton_self _, hn, ?_⟩
  rw [State.leaveFunction, (s.readReg_eq_error 0 _).2 ⟨hn, rfl⟩, commit_error]

end UnwrittenFaults

/-- Every instruction by its operand form; the last forms read no register of their own. -/
theorem exec_unwrittenFaults (i : Instr) (s : State) (hw : ∀ d, i.destination = some d → s.Writable d) :
    UnwrittenFaults i.reads s (exec i s) := by
  cases i with
  | add64Imm | sub64Imm | mul64Imm | div64Imm | sdiv64Imm | or64Imm | and64Imm | lsh64Imm | rsh64Imm | mod64Imm
  | smod64Imm | xor64Imm | arsh64Imm =>
    exact .alu64Imm _ _ _ (hw _ rfl)
  | add32Imm | sub32Imm | mul32Imm | div32Imm | sdiv32Imm | or32Imm | and32Imm | lsh32Imm | rsh32Imm | mod32Imm
  | smod32Imm | xor32Imm | arsh32Imm =>
    exact .alu32Imm _ _ _ (hw _ rfl)
  | add64Reg | sub64Reg | mul64Reg | div64Reg | sdiv64Reg | or64Reg | and64Reg | lsh64Reg | rsh64Reg | mod64Reg
  | smod64Reg | xor64Reg | arsh64Reg =>
    exact .alu64Reg _ _ _ (hw _ rfl)
  | add32Reg | sub32Reg | mul32Reg | div32Reg | sdiv32Reg | or32Reg | and32Reg | lsh32Reg | rsh32Reg | mod32Reg
  | smod32Reg | xor32Reg | arsh32Reg =>
    exact .alu32Reg _ _ _ (hw _ rfl)
  | neg64 | neg32 | le16 | le32 | le64 | be16 | be32 | be64 | bswap16 | bswap32 | bswap64 =>
    exact .unary _ _ (hw _ rfl)
  | mov64Reg | mov32Reg | movsx64From8 | movsx64From16 | movsx64From32 | movsx32From8 | movsx32From16 =>
    exact .moveReg _ _ _ (hw _ rfl)
  | jeq64Imm | jgt64Imm | jge64Imm | jset64Imm | jne64Imm | jsgt64Imm | jsge64Imm | jlt64Imm | jle64Imm
  | jslt64Imm | jsle64Imm =>
    exact .jump64Imm _ _ _ _
  | jeq32Imm | jgt32Imm | jge32Imm | jset32Imm | jne32Imm | jsgt32Imm | jsge32Imm | jlt32Imm | jle32Imm
  | jslt32Imm | jsle32Imm =>
    exact .jump32Imm _ _ _ _
  | jeq64Reg | jgt64Reg | jge64Reg | jset64Reg | jne64Reg | jsgt64Reg | jsge64Reg | jlt64Reg | jle64Reg
  | jslt64Reg | jsle64Reg =>
    exact .jump64Reg _ _ _ _
  | jeq32Reg | jgt32Reg | jge32Reg | jset32Reg | jne32Reg | jsgt32Reg | jsge32Reg | jlt32Reg | jle32Reg
  | jslt32Reg | jsle32Reg =>
    exact .jump32Reg _ _ _ _
  | ldxw | ldxh | ldxb | ldxdw | ldxsw | ldxsh | ldxsb =>
    exact .loadInto _ _ _ _ _ (hw _ rfl)
  | stw | sth | stb | stdw =>
    exact .storeImm _ _ _ _
  | stxw | stxh | stxb | stxdw =>
    exact .storeReg _ _ _ _
  | atomicAdd32 | atomicOr32 | atomicAnd32 | atomicXor32 | atomicAdd64 | atomicOr64 | atomicAnd64 | atomicXor64
  =>
    exact .atomicModify _ _ _ _ _
  | atomicFetchAdd32 | atomicFetchOr32 | atomicFetchAnd32 | atomicFetchXor32 | atomicXchg32 | atomicFetchAdd64
  | atomicFetchOr64 | atomicFetchAnd64 | atomicFetchXor64 | atomicXchg64 =>
    exact .atomicFetch _ _ _ _ _ (hw _ rfl)
  | atomicCmpxchg32 | atomicCmpxchg64 =>
    exact .atomicCompareExchange _ _ _ _
  | exit =>
    exact .leaveFunction
  | mov64Imm | mov32Imm | ja | ja32 | callHelper | callBtf | callLocal | lddw | ldMapFd | ldMapValFd | ldVarAddr
  | ldCodeAddr | ldMapIdx | ldMapValIdx | ldabsw | ldabsh | ldabsb | ldindw | ldindh | ldindb =>
    exact .nil

/-- Settles O41, by the operand forms: the registers are read before any other check but that of the destination. -/
theorem unwrittenReads : Obligations.UnwrittenReads :=
  fun s i hw => exec_unwrittenFaults i s hw

end Sys2Proof.Machine
end

section
/-! SUPPORT. Where an instruction may write data memory (20_memory.md R37, R40), read off `exec_shape`, and what one region
admits. -/

namespace Sys2Proof.Machine

section

variable {i : Instr} {s t : State}

/-- Which bytes of data memory an instruction writes in a step from `s` to `t` (20_memory.md R37; 44_atomic.md R244). -/
inductive MemoryWritten (i : Instr) (s t : State) : Prop
  | nothing (h : KeepsMemory s t)
  /-- Bytes of one admitted access of an instruction of class ST or STX (30_encoding.md R56). -/
  | access (ea : Word) (n : AccessSize) (k : AccessKind) (hc : i.opcodeClass = 2 ∨ i.opcodeClass = 3)
      (hk : k = .write ∨ k = .atomic) (ha : s.Admitted ea n k)
      (h : ∀ a, (∀ j < n.bytes, a ≠ byteAddr ea j) → t.readByte a = s.readByte a)
  /-- A helper may write any byte (42_jump.md R211). -/
  | helper (hi : i.callsHelper)

/-- A store behind a read leaves the bytes outside the access as they were before the read. -/
theorem State.readByte_afterLoad_store_of_ne (s : State) (ea : Word) (n : AccessSize) (v : Word) (a : Nat)
    (h : ∀ j < n.bytes, a ≠ byteAddr ea j) : ((s.afterLoad ea n).store ea n v).readByte a = s.readByte a := by
  rw [State.readByte_store_of_ne _ _ _ _ _ h, State.afterLoad_readByte]

theorem NextShape.memoryWritten (h : NextShape i s t) : MemoryWritten i s t := by
  match h with
  | .register _ _ _ _ _ _ _ ht => exact .nothing fun a => by simp [ht]
  | .jump _ _ _ _ _ _ _ _ _ ht => exact .nothing fun a => by rw [ht]; rfl
  | .load _ _ _ _ _ _ _ _ ht => exact .nothing fun a => by simp [ht]
  | .store _ ea n v hc hm _ ha ht =>
    refine .access ea n .write (hc ▸ hm) (.inl rfl) ((s.admits_eq_true _ _ _).1 ha) fun a hne => ?_
    rw [ht]; exact s.readByte_store_of_ne ea n v a hne
  | .modify ea n v hc _ ha ht =>
    refine .access ea n .atomic (.inr hc) (.inr rfl) ((s.admits_eq_true _ _ _).1 ha) fun a hne => ?_
    rw [ht]; exact s.readByte_afterLoad_store_of_ne ea n v a hne
  | .fetch ea n v _ _ hc _ ha _ _ ht =>
    refine .access ea n .atomic (.inr hc) (.inr rfl) ((s.admits_eq_true _ _ _).1 ha) fun a hne => ?_
    rw [ht]; exact s.readByte_afterLoad_store_of_ne ea n v a hne
  | .exchange ea n v _ stores hc _ ha _ ht =>
    refine .access ea n .atomic (.inr hc) (.inr rfl) ((s.admits_eq_true _ _ _).1 ha) fun a hne => ?_
    rw [ht]
    cases stores with
    | true => exact s.readByte_afterLoad_store_of_ne ea n v a hne
    | false => exact s.afterLoad_readByte ea n a
  | .call _ _ _ _ _ ht => exact .nothing fun a => by simp [ht]
  | .helper _ imm _ _ hi _ => exact .helper ⟨imm, hi⟩
  | .done _ _ _ ht => exact .nothing fun a => by rw [ht]; rfl
  | .return _ _ _ _ ht => exact .nothing fun a => by simp [ht]

end

/-- Settles O58: a byte that reads differently is not among those that the access leaves as they were. -/
theorem memoryIsConfined : Obligations.MemoryIsConfined := by
  intro i s t a hx hh hne
  cases (exec_shape i s t hx).memoryWritten with
  | nothing hm => exact absurd (hm a) hne
  | helper hi => exact absurd hi hh
  | access ea n k hc hk ha hm =>
    obtain ⟨j, hj, he⟩ : ∃ j < n.bytes, a = byteAddr ea j := by
      by_contra hout
      exact hne (hm a fun j hj he => hout ⟨j, hj, he⟩)
    exact ⟨hc, ea, n, k, j, hk, ha, hj, he⟩

/-! ## What a region admits -/

/-- The marks of a region allow a kind of access (20_memory.md R40). -/
theorem admissionAllows_mk (first last size : Nat) (r w a : Bool) (k : AccessKind) :
    admissionAllows ⟨first, last, size, r, w, a⟩ k = true ↔
      (k = .read ∧ r = true) ∨ (k = .write ∧ w = true) ∨ (k = .atomic ∧ a = true) := by
  cases k <;> simp [admissionAllows]

/-- A region has one rule for an access: it starts and ends in the region, and the marks allow it (20_memory.md R34, R40). -/
theorem exists_mem_admitRegion (base size : Nat) (r w a : Bool) (ea : Word) (n : AccessSize) (k : AccessKind) :
    (∃ x ∈ admitRegion base size r w a, x.first ≤ ea.toNat ∧ ea.toNat ≤ x.last ∧ x.size = n.bytes ∧
        admissionAllows x k = true) ↔
      (base ≤ ea.toNat ∧ ea.toNat + n.bytes ≤ base + size) ∧
        admissionAllows ⟨base, base + size - n.bytes, n.bytes, r, w, a⟩ k = true := by
  constructor
  · rintro ⟨x, hx, hfirst, hlast, hsize, hallows⟩
    obtain ⟨_, hle, hx⟩ := (mem_admitRegion ..).1 hx
    rw [hsize] at hle hx
    rw [hx] at hfirst hlast hallows
    dsimp only at hfirst hlast
    exact ⟨⟨hfirst, by omega⟩, hallows⟩
  · rintro ⟨⟨hfirst, hlast⟩, hallows⟩
    have hbytes : n.bytes = 1 ∨ n.bytes = 2 ∨ n.bytes = 4 ∨ n.bytes = 8 := by cases n <;> decide
    refine ⟨_, (mem_admitRegion ..).2 ⟨hbytes, ?_, rfl⟩, hfirst, ?_, rfl, hallows⟩ <;> dsimp only <;> omega

/-- Settles O59: the rules of a region decide each needed kind alike, and an atomic access needs all three. -/
theorem regionAdmission : Obligations.RegionAdmission := by
  intro s base size r w a ea n k hs
  simp only [State.Admitted, hs, exists_mem_admitRegion, admissionAllows_mk]
  cases k with
  | read => simp [neededKinds, and_assoc]
  | write => simp [neededKinds, and_assoc]
  | atomic => simp [neededKinds]; tauto

end Sys2Proof.Machine
end

section
/-! SUPPORT. The memory accesses of loads, stores and atomics: where the two checks fail, and what the access does where
they succeed. -/

namespace Sys2Proof

/-- The access that an instruction makes: base register, offset, size and kind (43_load_store.md R217; 44_atomic.md R238). -/
def Instr.access : Instr → Option (Reg × BitVec 16 × Machine.AccessSize × AccessKind)
  | .ldxw _ r off => some (r, off, .w, .read)
  | .ldxh _ r off => some (r, off, .h, .read)
  | .ldxb _ r off => some (r, off, .b, .read)
  | .ldxdw _ r off => some (r, off, .dw, .read)
  | .ldxsw _ r off => some (r, off, .w, .read)
  | .ldxsh _ r off => some (r, off, .h, .read)
  | .ldxsb _ r off => some (r, off, .b, .read)
  | .stw d off _ => some (d, off, .w, .write)
  | .sth d off _ => some (d, off, .h, .write)
  | .stb d off _ => some (d, off, .b, .write)
  | .stdw d off _ => some (d, off, .dw, .write)
  | .stxw d _ off => some (d, off, .w, .write)
  | .stxh d _ off => some (d, off, .h, .write)
  | .stxb d _ off => some (d, off, .b, .write)
  | .stxdw d _ off => some (d, off, .dw, .write)
  | .atomicAdd32 d _ off | .atomicOr32 d _ off | .atomicAnd32 d _ off | .atomicXor32 d _ off
  | .atomicFetchAdd32 d _ off | .atomicFetchOr32 d _ off | .atomicFetchAnd32 d _ off | .atomicFetchXor32 d _ off
  | .atomicXchg32 d _ off | .atomicCmpxchg32 d _ off => some (d, off, .w, .atomic)
  | .atomicAdd64 d _ off | .atomicOr64 d _ off | .atomicAnd64 d _ off | .atomicXor64 d _ off
  | .atomicFetchAdd64 d _ off | .atomicFetchOr64 d _ off | .atomicFetchAnd64 d _ off | .atomicFetchXor64 d _ off
  | .atomicXchg64 d _ off | .atomicCmpxchg64 d _ off => some (d, off, .dw, .atomic)
  | _ => none

end Sys2Proof

namespace Sys2Proof.Machine

/-! ## Where an access fails -/

/-- Misaligned before not admitted (60_exceptions.md R291). -/
theorem State.checkAccess_eq_error (s : State) (ea : Word) (n : AccessSize) (k : AccessKind) (f : Fault) :
    s.checkAccess ea n k = .error f ↔
      (¬ s.Aligned ea n k ∧ f = .memoryFault ⟨ea, n.bytes, k, .misaligned⟩) ∨
      (s.Aligned ea n k ∧ ¬ s.Admitted ea n k ∧ f = .memoryFault ⟨ea, n.bytes, k, .notAdmitted⟩) := by
  rw [← s.misaligned_eq_false, ← s.admits_eq_true]
  unfold State.checkAccess
  cases s.misaligned ea n k <;> cases s.admits ea n k <;> simp [eq_comm]

/-- With the registers `rs` written, where the access at `ea` fails a check, the outcome is the fault of that check
(60_exceptions.md R291, R296). -/
def AccessFaults (rs : List Reg) (ea : Word) (n : AccessSize) (k : AccessKind) (s : State)
    (o : Host.Outcome State Fault Refusal) : Prop :=
  (∀ q ∈ rs, s.reg q ≠ none) → ∀ f, s.checkAccess ea n k = .error f → o = .fault f

namespace AccessFaults

variable {rs : List Reg} {ea base : Word} {n : AccessSize} {k : AccessKind} {s : State}

/-! ### The parts of a computation -/

theorem access {g : Unit → Except Fault State} : AccessFaults [] ea n k s (commit (s.checkAccess ea n k >>= g)) := by
  intro _ f hf
  rw [hf]
  rfl

theorem readBase {b : Reg} {g : Word → Except Fault State} (hb : s.reg b = some base)
    (h : AccessFaults rs ea n k s (commit (g base))) :
    AccessFaults (b :: rs) ea n k s (commit (s.readReg b >>= g)) := by
  intro hrs
  rw [(s.readReg_eq_ok b base).2 hb]
  exact h fun q hq => hrs q (List.mem_cons_of_mem b hq)

theorem read {r : Reg} {g : Word → Except Fault State} (h : ∀ v, AccessFaults rs ea n k s (commit (g v))) :
    AccessFaults (r :: rs) ea n k s (commit (s.readReg r >>= g)) := by
  intro hrs
  obtain ⟨v, hv⟩ := Option.ne_none_iff_exists'.1 (hrs r List.mem_cons_self)
  exact readBase hv (h v) hrs

theorem checkDest {d : Reg} {g : Unit → Except Fault State} (hw : s.Writable d)
    (h : AccessFaults rs ea n k s (commit (g ()))) : AccessFaults rs ea n k s (commit (s.checkDest d >>= g)) := by
  rw [(s.checkDest_eq_ok d ()).2 hw]
  exact h

/-! ### The shapes of meaning -/

theorem loadInto (ext : Word → Word) (d r : Reg) (off : BitVec 16) (hb : s.reg r = some base) (hw : s.Writable d) :
    AccessFaults [r] (effectiveAddress base off) n .read s (commit (loadInto n ext d r off s)) :=
  checkDest hw (readBase hb access)

theorem storeImm (d : Reg) (off : BitVec 16) (imm : Word32) (hb : s.reg d = some base) :
    AccessFaults [d] (effectiveAddress base off) n .write s (commit (storeImm n d off imm s)) := readBase hb access

theorem storeReg (d r : Reg) (off : BitVec 16) (hb : s.reg d = some base) :
    AccessFaults [d, r] (effectiveAddress base off) n .write s (commit (storeReg n d r off s)) :=
  readBase hb (read fun _ => access)

theorem atomicModify (f : Word → Word → Word) (d r : Reg) (off : BitVec 16) (hb : s.reg d = some base) :
    AccessFaults [d, r] (effectiveAddress base off) n .atomic s (commit (atomicModify n f d r off s)) :=
  readBase hb (read fun _ => access)

theorem atomicFetch (f : Word → Word → Word) (d r : Reg) (off : BitVec 16) (hb : s.reg d = some base)
    (hw : s.Writable r) :
    AccessFaults [d, r] (effectiveAddress base off) n .atomic s (commit (atomicFetch n f d r off s)) :=
  checkDest hw (readBase hb (read fun _ => access))

theorem atomicCompareExchange (d r : Reg) (off : BitVec 16) (hb : s.reg d = some base) :
    AccessFaults [d, r, 0] (effectiveAddress base off) n .atomic s (commit (atomicCompareExchange n d r off s)) :=
  readBase hb (read fun _ => read fun _ => access)

end AccessFaults

/-- Every instruction that makes an access, by its operand form. -/
theorem exec_accessFaults (i : Instr) (s : State) {b : Reg} {off : BitVec 16} {n : AccessSize} {k : AccessKind} {base : Word}
    (hi : i.access = some (b, off, n, k)) (hb : s.reg b = some base) (hw : ∀ d, i.destination = some d → s.Writable d) :
    AccessFaults i.reads (effectiveAddress base off) n k s (exec i s) := by
  cases i with
  | ldxw | ldxh | ldxb | ldxdw | ldxsw | ldxsh | ldxsb =>
    cases hi; exact .loadInto _ _ _ _ hb (hw _ rfl)
  | stw | sth | stb | stdw =>
    cases hi; exact .storeImm _ _ _ hb
  | stxw | stxh | stxb | stxdw =>
    cases hi; exact .storeReg _ _ _ hb
  | atomicAdd32 | atomicOr32 | atomicAnd32 | atomicXor32 | atomicAdd64 | atomicOr64 | atomicAnd64 | atomicXor64 =>
    cases hi; exact .atomicModify _ _ _ _ hb
  | atomicFetchAdd32 | atomicFetchOr32 | atomicFetchAnd32 | atomicFetchXor32 | atomicXchg32 | atomicFetchAdd64
  | atomicFetchOr64 | atomicFetchAnd64 | atomicFetchXor64 | atomicXchg64 =>
    cases hi; exact .atomicFetch _ _ _ _ hb (hw _ rfl)
  | atomicCmpxchg32 | atomicCmpxchg64 =>
    cases hi; exact .atomicCompareExchange _ _ _ hb
  | _ => cases hi

/-- Settles O31: each row is an instruction with its access, and a failed check decides the outcome. -/
theorem memoryFaults : Obligations.MemoryFaults := by
  intro s d r off imm base p hp
  have hi : p.1.access = some (p.2.1, off, p.2.2.1, p.2.2.2) := by
    revert p
    simp only [List.forall_mem_cons, List.not_mem_nil, false_imp_iff, implies_true, Instr.access, and_self]
  intro hb hr hw
  have hx := exec_accessFaults p.1 s hi hb hw hr
  exact ⟨fun hal => hx _ ((s.checkAccess_eq_error ..).2 (.inl ⟨hal, rfl⟩)),
    fun hal had => hx _ ((s.checkAccess_eq_error ..).2 (.inr ⟨hal, had, rfl⟩))⟩

end Sys2Proof.Machine
end

section
/-! SUPPORT. Loads and atomics on shared memory (20_memory.md R47), and a load behind a store to the same bytes. -/

namespace Sys2Proof.Machine

section

variable {s t u : State} {ea : Word} {n : AccessSize} {k : AccessKind}

/-! ## Accesses whose checks succeed -/

theorem State.checks_of_allowed (hal : s.Aligned ea n k) (had : s.Admitted ea n k) :
    s.misaligned ea n k = false ∧ s.admits ea n k = true :=
  ⟨(s.misaligned_eq_false ea n k).2 hal, (s.admits_eq_true ea n k).2 had⟩

/-- Misalignment concerns loads and stores alike (20_memory.md R39). -/
theorem State.Aligned.read_of_write (h : s.Aligned ea n .write) : s.Aligned ea n .read :=
  h.imp_right fun ha => ⟨ha.1, nofun⟩

theorem State.Aligned.of_params_eq (h : s.Aligned ea n k) (hp : t.params = s.params) : t.Aligned ea n k := by
  unfold State.Aligned
  rwa [hp]

theorem State.Admitted.of_params_eq (h : s.Admitted ea n k) (hp : t.params = s.params) : t.Admitted ea n k := by
  unfold State.Admitted
  rwa [hp]

/-- The bytes of a load from the bytes of a store are those of the value stored (20_memory.md R36, R37). -/
theorem State.loadBytes_store_of_private (h : s.Private ea n) (v : Word) :
    (s.store ea n v).loadBytes ea n = toBytes s.params.hostEndian n.bytes v := by
  apply List.ext_getElem
  · simp [State.loadBytes]
  · intro i h1 _
    have hi : i < n.bytes := by simpa [State.loadBytes] using h1
    have hp : (s.store ea n v).sharedByte (byteAddr ea i) = false := s.sharedByte_of_private ea n i hi h
    simp [State.loadBytes, hp, s.readByte_store_at ea n v i hi]

/-- A load sees the latest store to the same bytes (20_memory.md R44). -/
theorem State.load_store_of_private (h : s.Private ea n) (v : Word) :
    (s.store ea n v).load ea n = BitVec.ofNat 64 (v.toNat % 2 ^ (8 * n.bytes)) := by
  rw [State.load, State.loadBytes_store_of_private h, State.store_params, ofBytes_toBytes, two_pow_mul_eight]

/-! ## One value of the oracle sequence is drawn -/

/-- From `s` to `t` control goes on by `j` slots and one oracle value is drawn, which leaves `rest` (20_memory.md R47). -/
def DrawsOne (rest : List Word) (j : Nat) (s t : State) : Prop :=
  t.pc = s.pc + j ∧ t.frames = s.frames ∧ KeepsPlatform s t ∧ KeepsHelpers s t ∧ t.oracle = rest ∧
    t.oracleCount = s.oracleCount + 1

section

variable {x : Word} {rest : List Word} {j : Nat}

theorem drawsOne_afterLoad (h : s.Shared ea n) (ho : s.oracle = x :: rest) : DrawsOne rest 0 s (s.afterLoad ea n) := by
  rw [s.afterLoad_of_shared ea n h]
  exact ⟨rfl, rfl, ⟨⟨rfl, rfl, rfl, rfl⟩, rfl⟩, ⟨⟨rfl, rfl⟩, rfl, rfl⟩, by rw [State.drawOracle_oracle, ho]; rfl, rfl⟩

theorem DrawsOne.store (h : DrawsOne rest j s u) (v : Word) : DrawsOne rest j s (u.store ea n v) := h

theorem DrawsOne.setReg (h : DrawsOne rest j s u) (d : Reg) (v : Word) : DrawsOne rest j s (u.setReg d v) := h

theorem DrawsOne.advance (h : DrawsOne rest 0 s u) : DrawsOne rest j s (u.advance j) := by
  obtain ⟨hpc, hrest⟩ := h
  exact ⟨by rw [State.advance_pc, hpc]; rfl, hrest⟩

/-- The value that is drawn (20_memory.md R47). -/
theorem State.load_of_shared_cons (h : s.Shared ea n) (ho : s.oracle = x :: rest) :
    s.load ea n = BitVec.ofNat 64 (x.toNat % 2 ^ (8 * n.bytes)) := by
  rw [s.load_of_shared ea n h, State.oracleNext, ho]
  rfl

end

/-! ## Operations whose low bytes depend on low bytes only -/

/-- Values with the same low bits have the same low bytes. -/
theorem extract_eq_of_setWidth_eq {v w : Word} {i : Nat} (h : v.setWidth (8 * n.bytes) = w.setWidth (8 * n.bytes))
    (hi : i < n.bytes) : v.extractLsb' (8 * i) 8 = w.extractLsb' (8 * i) 8 := by
  apply BitVec.eq_of_getLsbD_eq
  intro b hb
  have hbit := congrArg (fun a => a.getLsbD (8 * i + b)) h
  have hlt : 8 * i + b < 8 * n.bytes := by omega
  simpa [BitVec.getLsbD_setWidth, hlt, hb] using hbit

theorem setWidth_lowBytes (n : AccessSize) (v : Word) :
    (lowBytes n.bytes v).setWidth (8 * n.bytes) = v.setWidth (8 * n.bytes) := by
  have hn : 8 * n.bytes ≤ 64 := by cases n <;> decide
  apply BitVec.eq_of_toNat_eq
  simp only [lowBytes, BitVec.toNat_setWidth, BitVec.toNat_ofNat]
  rw [Nat.mod_mod_of_dvd _ (Nat.pow_dvd_pow 2 hn), Nat.mod_mod]

/-- The low bytes of a result depend on the low bytes of the second operand only (44_atomic.md R242). -/
def UsesLowBytes (n : AccessSize) (f : Word → Word → Word) : Prop :=
  ∀ a b c : Word, b.setWidth (8 * n.bytes) = c.setWidth (8 * n.bytes) →
    (f a b).setWidth (8 * n.bytes) = (f a c).setWidth (8 * n.bytes)

theorem usesLowBytes_add (n : AccessSize) : UsesLowBytes n (fun x y => x + y) := by
  intro a b c h
  have hn : 8 * n.bytes ≤ 64 := by cases n <;> decide
  rw [BitVec.setWidth_add _ _ hn, BitVec.setWidth_add _ _ hn, h]

theorem usesLowBytes_or (n : AccessSize) : UsesLowBytes n (fun x y => x ||| y) := by
  intro a b c h
  rw [BitVec.setWidth_or, BitVec.setWidth_or, h]

theorem usesLowBytes_and (n : AccessSize) : UsesLowBytes n (fun x y => x &&& y) := by
  intro a b c h
  rw [BitVec.setWidth_and, BitVec.setWidth_and, h]

theorem usesLowBytes_xor (n : AccessSize) : UsesLowBytes n (fun x y => x ^^^ y) := by
  intro a b c h
  rw [BitVec.setWidth_xor, BitVec.setWidth_xor, h]

theorem usesLowBytes_second (n : AccessSize) : UsesLowBytes n (fun _ y => y) := fun _ _ _ h => h

/-- An atomic stores the result of the operation on the whole source register (44_atomic.md R238, R242). -/
theorem storesAt_afterLoad_lowBytes {f : Word → Word → Word} (hf : UsesLowBytes n f) (ea old v : Word) :
    StoresAt ea n (f old v) s ((s.afterLoad ea n).store ea n (f old (lowBytes n.bytes v))) := by
  have hs := (s.afterLoad ea n).storesAt_store ea n (f old v) (f old (lowBytes n.bytes v))
    fun _ hi => extract_eq_of_setWidth_eq (hf _ _ _ (setWidth_lowBytes n v)) hi
  simpa only [StoresAt, State.afterLoad_params, State.afterLoad_readByte] using hs

/-! ## The next state of a load, store or atomic whose checks succeed -/

section

variable {d r : Reg} {off : BitVec 16} {base v : Word}

theorem loadInto_next (ext : Word → Word) (hw : s.Writable d) (hb : s.reg r = some base)
    (hal : s.Aligned (effectiveAddress base off) n .read) (had : s.Admitted (effectiveAddress base off) n .read) :
    commit (loadInto n ext d r off s) = .next (((s.afterLoad (effectiveAddress base off) n).setReg d
      (ext (s.load (effectiveAddress base off) n))).advance 1) :=
  (commit_eq_next _ _).2 ((loadInto_eq_ok ..).2 ⟨hw, base, hb, State.checks_of_allowed hal had, rfl⟩)

theorem storeReg_next (hb : s.reg d = some base) (hv : s.reg r = some v)
    (hal : s.Aligned (effectiveAddress base off) n .write) (had : s.Admitted (effectiveAddress base off) n .write) :
    commit (storeReg n d r off s) = .next ((s.store (effectiveAddress base off) n v).advance 1) :=
  (commit_eq_next _ _).2 ((storeReg_eq_ok ..).2 ⟨base, hb, v, hv, State.checks_of_allowed hal had, rfl⟩)

theorem atomicModify_next (f : Word → Word → Word) (hb : s.reg d = some base) (hv : s.reg r = some v)
    (hal : s.Aligned (effectiveAddress base off) n .atomic) (had : s.Admitted (effectiveAddress base off) n .atomic) :
    commit (atomicModify n f d r off s) = .next (((s.afterLoad (effectiveAddress base off) n).store
      (effectiveAddress base off) n (f (s.load (effectiveAddress base off) n) (lowBytes n.bytes v))).advance 1) :=
  (commit_eq_next _ _).2 ((atomicModify_eq_ok ..).2 ⟨base, hb, v, hv, State.checks_of_allowed hal had, rfl⟩)

theorem atomicFetch_next (f : Word → Word → Word) (hw : s.Writable r) (hb : s.reg d = some base) (hv : s.reg r = some v)
    (hal : s.Aligned (effectiveAddress base off) n .atomic) (had : s.Admitted (effectiveAddress base off) n .atomic) :
    commit (atomicFetch n f d r off s) = .next ((((s.afterLoad (effectiveAddress base off) n).store
      (effectiveAddress base off) n (f (s.load (effectiveAddress base off) n) (lowBytes n.bytes v))).setReg r
        (s.load (effectiveAddress base off) n)).advance 1) :=
  (commit_eq_next _ _).2 ((atomicFetch_eq_ok ..).2 ⟨hw, base, hb, v, hv, State.checks_of_allowed hal had, rfl⟩)

/-- The memory of a compare and exchange at `ea` that compares with `c` and stores `v`, before r0 is written
(44_atomic.md R241). -/
def State.exchanged (s : State) (ea : Word) (n : AccessSize) (c v : Word) : State :=
  if s.load ea n = lowBytes n.bytes c then (s.afterLoad ea n).store ea n (lowBytes n.bytes v) else s.afterLoad ea n

theorem atomicCompareExchange_next {c : Word} (hb : s.reg d = some base) (hv : s.reg r = some v) (hc : s.reg 0 = some c)
    (hal : s.Aligned (effectiveAddress base off) n .atomic) (had : s.Admitted (effectiveAddress base off) n .atomic) :
    commit (atomicCompareExchange n d r off s) = .next (((s.exchanged (effectiveAddress base off) n c v).setReg 0
      (s.load (effectiveAddress base off) n)).advance 1) :=
  (commit_eq_next _ _).2
    ((atomicCompareExchange_eq_ok ..).2 ⟨base, hb, v, hv, c, hc, State.checks_of_allowed hal had, rfl⟩)

end

/-! ### Compare and exchange -/

section

variable {c v : Word}

theorem toNat_lowBytes (n : AccessSize) (v : Word) : (lowBytes n.bytes v).toNat = v.toNat % 2 ^ (8 * n.bytes) := by
  have hn : 8 * n.bytes ≤ 64 := by cases n <;> decide
  have hlt : v.toNat % 2 ^ (8 * n.bytes) < 2 ^ 64 := Nat.lt_of_le_of_lt (Nat.mod_le _ _) v.isLt
  rw [lowBytes, BitVec.toNat_ofNat, Nat.mod_eq_of_lt hlt]

theorem State.exchanged_of_eq (h : (s.load ea n).toNat = c.toNat % 2 ^ (8 * n.bytes)) :
    s.exchanged ea n c v = (s.afterLoad ea n).store ea n (lowBytes n.bytes v) :=
  if_pos (BitVec.eq_of_toNat_eq (h.trans (toNat_lowBytes n c).symm))

theorem State.exchanged_of_ne (h : (s.load ea n).toNat ≠ c.toNat % 2 ^ (8 * n.bytes)) :
    s.exchanged ea n c v = s.afterLoad ea n :=
  if_neg fun he => h (by rw [he, toNat_lowBytes])

theorem State.exchanged_reg (q : Reg) : (s.exchanged ea n c v).reg q = s.reg q := by
  unfold State.exchanged
  split <;> simp

theorem drawsOne_exchanged {x : Word} {rest : List Word} (h : s.Shared ea n) (ho : s.oracle = x :: rest) :
    DrawsOne rest 0 s (s.exchanged ea n c v) := by
  unfold State.exchanged
  split
  · exact (drawsOne_afterLoad h ho).store _
  · exact drawsOne_afterLoad h ho

end

end

/-! ## A load behind a store, and atomics on shared memory -/

section

variable {s : State} {n : AccessSize} {d r q : Reg} {off : BitVec 16} {base v x : Word} {rest : List Word}

/-- The store keeps the base register and what decides the checks of the load. -/
theorem storeReg_then_loadInto (hw : s.Writable q) (hb : s.reg d = some base) (hv : s.reg r = some v)
    (hal : s.Aligned (effectiveAddress base off) n .write) (hadw : s.Admitted (effectiveAddress base off) n .write)
    (hadr : s.Admitted (effectiveAddress base off) n .read) (hpriv : s.Private (effectiveAddress base off) n) :
    ∃ t u : State, commit (storeReg n d r off s) = .next t ∧ commit (loadInto n (fun v => v) q d off t) = .next u ∧
      u.reg q = some (BitVec.ofNat 64 (v.toNat % 2 ^ (8 * n.bytes))) := by
  let t := (s.store (effectiveAddress base off) n v).advance 1
  have hl : t.load (effectiveAddress base off) n = BitVec.ofNat 64 (v.toNat % 2 ^ (8 * n.bytes)) :=
    State.load_store_of_private hpriv v
  refine ⟨t, _, storeReg_next hb hv hal hadw,
    loadInto_next _ hw hb (hal.read_of_write.of_params_eq rfl) (hadr.of_params_eq rfl), ?_⟩
  rw [State.advance_reg, State.reg_setReg_same, hl]

/-- Memory receives the result computed from the value drawn; no register is written (44_atomic.md R238). -/
theorem atomicModify_shared {f : Word → Word → Word} (hf : UsesLowBytes n f) (hb : s.reg d = some base)
    (hv : s.reg r = some v) (hal : s.Aligned (effectiveAddress base off) n .atomic)
    (had : s.Admitted (effectiveAddress base off) n .atomic) (hsh : s.Shared (effectiveAddress base off) n)
    (ho : s.oracle = x :: rest) :
    ∃ t, commit (atomicModify n f d r off s) = .next t ∧
      StoresAt (effectiveAddress base off) n (f (BitVec.ofNat 64 (x.toNat % 2 ^ (8 * n.bytes))) v) s t ∧
      KeepsRegsBut [] s t ∧ DrawsOne rest 1 s t := by
  refine ⟨_, atomicModify_next f hb hv hal had, ?_, fun q _ => s.afterLoad_reg _ _ q,
    ((drawsOne_afterLoad hsh ho).store _).advance⟩
  rw [State.load_of_shared_cons hsh ho]
  exact storesAt_afterLoad_lowBytes hf _ _ v

/-- As `atomicModify_shared`, and the source register receives the value drawn (44_atomic.md R240). -/
theorem atomicFetch_shared {f : Word → Word → Word} (hf : UsesLowBytes n f) (hw : s.Writable r) (hb : s.reg d = some base)
    (hv : s.reg r = some v) (hal : s.Aligned (effectiveAddress base off) n .atomic)
    (had : s.Admitted (effectiveAddress base off) n .atomic) (hsh : s.Shared (effectiveAddress base off) n)
    (ho : s.oracle = x :: rest) :
    ∃ t, commit (atomicFetch n f d r off s) = .next t ∧
      StoresAt (effectiveAddress base off) n (f (BitVec.ofNat 64 (x.toNat % 2 ^ (8 * n.bytes))) v) s t ∧
      t.reg r = some (BitVec.ofNat 64 (x.toNat % 2 ^ (8 * n.bytes))) ∧ KeepsRegsBut [r] s t ∧ DrawsOne rest 1 s t := by
  refine ⟨_, atomicFetch_next f hw hb hv hal had, ?_, ?_, keepsRegsBut_setReg (s.afterLoad_reg _ _) r _,
    (((drawsOne_afterLoad hsh ho).store _).setReg r _).advance⟩
  · rw [State.load_of_shared_cons hsh ho]
    exact storesAt_afterLoad_lowBytes hf _ _ v
  · rw [State.advance_reg, State.reg_setReg_same, State.load_of_shared_cons hsh ho]

/-- The value drawn is compared with r0 and goes to r0; memory changes on a match only (44_atomic.md R241). -/
theorem atomicCompareExchange_shared {c : Word} (hb : s.reg d = some base) (hv : s.reg r = some v) (hc : s.reg 0 = some c)
    (hal : s.Aligned (effectiveAddress base off) n .atomic) (had : s.Admitted (effectiveAddress base off) n .atomic)
    (hsh : s.Shared (effectiveAddress base off) n) (ho : s.oracle = x :: rest) :
    let old : Word := BitVec.ofNat 64 (x.toNat % 2 ^ (8 * n.bytes))
    ∃ t, commit (atomicCompareExchange n d r off s) = .next t ∧
      (old.toNat = c.toNat % 2 ^ (8 * n.bytes) → StoresAt (effectiveAddress base off) n v s t) ∧
      (old.toNat ≠ c.toNat % 2 ^ (8 * n.bytes) → KeepsMemory s t) ∧ t.reg 0 = some old ∧ KeepsRegsBut [0] s t ∧
      DrawsOne rest 1 s t := by
  intro old
  have hold : s.load (effectiveAddress base off) n = old := State.load_of_shared_cons hsh ho
  refine ⟨_, atomicCompareExchange_next hb hv hc hal had, fun hm => ?_, fun hm => ?_, ?_,
    keepsRegsBut_setReg (fun _ => State.exchanged_reg _) 0 _, ((drawsOne_exchanged hsh ho).setReg 0 _).advance⟩
  · rw [State.exchanged_of_eq (hold.symm ▸ hm)]
    exact storesAt_afterLoad_lowBytes (usesLowBytes_second _) _ old v
  · rw [State.exchanged_of_ne (hold.symm ▸ hm)]
    exact s.afterLoad_readByte _ _
  · rw [State.advance_reg, State.reg_setReg_same, hold]

end

/-! ## The statements -/

/-- Settles O28: a load from shared memory draws the next oracle value and writes its destination. -/
theorem sharedLoadResults : Obligations.SharedLoadResults := by
  intro s d r off base x rest hw hb ho p hp
  have hx : exec p.1 s = commit (loadInto p.2.1 p.2.2 d r off s) := by
    revert p
    simp only [List.forall_mem_cons]
    exact ⟨rfl, rfl, rfl, rfl, rfl, rfl, rfl, List.forall_mem_nil _⟩
  intro hal had hsh
  obtain ⟨hpc, hframes, hplatform, hhelpers, horacle, hcount⟩ :=
    ((drawsOne_afterLoad hsh ho).setReg d (p.2.2 (s.load (effectiveAddress base off) p.2.1))).advance (j := 1)
  refine ⟨_, hx.trans (loadInto_next p.2.2 hw hb hal had), ?_, ?_, hpc, hframes, ?_, hplatform, hhelpers, horacle,
    hcount⟩
  · rw [State.advance_reg, State.reg_setReg_same, State.load_of_shared_cons hsh ho]
  · exact keepsRegsBut_setReg (s.afterLoad_reg _ _) d _
  · exact s.afterLoad_readByte _ _

/-- Settles O30: the store keeps the base register and the checks, and the load reads the bytes it wrote. -/
theorem storeThenLoad : Obligations.StoreThenLoad := by
  intro s d r q off base v hw hb hv p hp
  have hx : (∀ s, exec p.1 s = commit (storeReg p.2.2 d r off s)) ∧
      ∀ s, exec p.2.1 s = commit (loadInto p.2.2 (fun v => v) q d off s) := by
    revert p
    simp only [List.forall_mem_cons]
    exact ⟨⟨fun _ => rfl, fun _ => rfl⟩, ⟨fun _ => rfl, fun _ => rfl⟩, ⟨fun _ => rfl, fun _ => rfl⟩,
      ⟨fun _ => rfl, fun _ => rfl⟩, List.forall_mem_nil _⟩
  obtain ⟨hstore, hload⟩ := hx
  intro hal hadw hadr hpriv
  obtain ⟨t, u, ht, hu, hq⟩ := storeReg_then_loadInto hw hb hv hal hadw hadr hpriv
  exact ⟨t, u, (hstore s).trans ht, (hload t).trans hu, hq⟩

/-- Settles O35: the rows of the three operand forms, each with the operation of its instruction. -/
theorem sharedAtomicResults : Obligations.SharedAtomicResults := by
  intro s d r off base v c x rest hb hv ho
  refine ⟨fun p hp => ?modify, fun hw p hp => ?fetch, fun hc p hp => ?exchange⟩
  case modify =>
    have hx : exec p.1 s = commit (atomicModify p.2.1 p.2.2 d r off s) ∧ UsesLowBytes p.2.1 p.2.2 := by
      revert p
      simp only [List.forall_mem_cons]
      exact ⟨⟨rfl, usesLowBytes_add _⟩, ⟨rfl, usesLowBytes_or _⟩, ⟨rfl, usesLowBytes_and _⟩, ⟨rfl, usesLowBytes_xor _⟩,
        ⟨rfl, usesLowBytes_add _⟩, ⟨rfl, usesLowBytes_or _⟩, ⟨rfl, usesLowBytes_and _⟩, ⟨rfl, usesLowBytes_xor _⟩,
        List.forall_mem_nil _⟩
    obtain ⟨hexec, hlow⟩ := hx
    intro hal had hsh
    rw [hexec]
    exact atomicModify_shared hlow hb hv hal had hsh ho
  case fetch =>
    have hx : exec p.1 s = commit (atomicFetch p.2.1 p.2.2 d r off s) ∧ UsesLowBytes p.2.1 p.2.2 := by
      revert p
      simp only [List.forall_mem_cons]
      exact ⟨⟨rfl, usesLowBytes_add _⟩, ⟨rfl, usesLowBytes_or _⟩, ⟨rfl, usesLowBytes_and _⟩, ⟨rfl, usesLowBytes_xor _⟩,
        ⟨rfl, usesLowBytes_second _⟩, ⟨rfl, usesLowBytes_add _⟩, ⟨rfl, usesLowBytes_or _⟩, ⟨rfl, usesLowBytes_and _⟩,
        ⟨rfl, usesLowBytes_xor _⟩, ⟨rfl, usesLowBytes_second _⟩, List.forall_mem_nil _⟩
    obtain ⟨hexec, hlow⟩ := hx
    intro hal had hsh
    rw [hexec]
    exact atomicFetch_shared hlow hw hb hv hal had hsh ho
  case exchange =>
    have hx : exec p.1 s = commit (atomicCompareExchange p.2 d r off s) := by
      revert p
      simp only [List.forall_mem_cons]
      exact ⟨rfl, rfl, List.forall_mem_nil _⟩
    intro hal had hsh
    rw [hx]
    exact atomicCompareExchange_shared hb hv hc hal had hsh ho

end Sys2Proof.Machine
end

section
/-! SUPPORT. The opcode map (30_encoding.md R62): no slot selects two of its rows, and which opcode bytes it leaves
out. -/

namespace Sys2Proof

/-! ## Rows that exclude each other -/

/-- Two selectors on the same field that ask for different values. -/
def Selector.clash : Selector → Selector → Bool
  | .off v, .off w => v != w
  | .imm v, .imm w => v != w
  | .src v, .src w => v != w
  | _, _ => false

/-- No fields satisfy two selectors that clash (30_encoding.md R60 (i)). -/
theorem Selector.not_holds_of_clash {a b : Selector} (h : a.clash b = true) (f : Fields) :
    ¬(a.holds f = true ∧ b.holds f = true) := by
  rintro ⟨ha, hb⟩
  unfold Selector.clash at h
  split at h
  case h_4 => cases h
  all_goals exact bne_iff_ne.1 h ((eq_of_beq ha).symm.trans (eq_of_beq hb))

theorem OpcodeRow.selects_iff {f : Fields} {r : OpcodeRow} :
    r.selects f = true ↔ f.opcode = r.opcode ∧ r.sel.holds f = true := by
  simp [OpcodeRow.selects]

/-- Two rows differ in the opcode byte, or in the value of the selector that they share (30_encoding.md R62). -/
theorem opcodeRows_pairwise_differ : opcodeRows.Pairwise fun p q =>
    p.opcode ≠ q.opcode ∨ p.sel.clash q.sel = true := by
  decide +kernel

/-- Settles O45: two rows with one opcode byte have selectors that clash. -/
theorem opcodeRowsDoNotOverlap : Obligations.OpcodeRowsDoNotOverlap := by
  refine opcodeRows_pairwise_differ.imp fun {p q} hpq f ⟨hp, hq⟩ => ?_
  obtain ⟨hpo, hps⟩ := OpcodeRow.selects_iff.1 hp
  obtain ⟨hqo, hqs⟩ := OpcodeRow.selects_iff.1 hq
  rcases hpq with hne | hclash
  · exact hne (hpo.symm.trans hqo)
  · exact Selector.not_holds_of_clash hclash f ⟨hps, hqs⟩

/-- Fields select one row at most. -/
theorem OpcodeRow.eq_of_selects {f : Fields} {p q : OpcodeRow} (hp : p ∈ opcodeRows) (hq : q ∈ opcodeRows)
    (hps : p.selects f = true) (hqs : q.selects f = true) : p = q := by
  have : Std.Symm fun p q : OpcodeRow => ¬(p.selects f = true ∧ q.selects f = true) := ⟨fun _ _ h hb => h hb.symm⟩
  by_contra hne
  exact (opcodeRowsDoNotOverlap.imp fun h => h f).forall hp hq hne ⟨hps, hqs⟩

/-- The decoder finds the row that selects the fields (30_encoding.md R61, steps 2 and 3). -/
theorem find?_opcodeRows_eq_some {f : Fields} {r : OpcodeRow} :
    opcodeRows.find? (OpcodeRow.selects f) = some r ↔ r ∈ opcodeRows ∧ r.selects f = true := by
  refine ⟨fun h => ⟨List.mem_of_find?_eq_some h, List.find?_some h⟩, fun ⟨hm, hs⟩ => ?_⟩
  cases hq : opcodeRows.find? (OpcodeRow.selects f) with
  | none => exact absurd hs (List.find?_eq_none.1 hq r hm)
  | some q =>
    rw [OpcodeRow.eq_of_selects (List.mem_of_find?_eq_some hq) hm (List.find?_some hq) hs]

/-! ## Undefined opcode bytes -/

/-- A set of bytes as a number: bit `b` is set for each member `b`. -/
def byteSet (bs : List Byte) : Nat := bs.foldr (fun b m => 2 ^ b.toNat ||| m) 0

theorem testBit_byteSet (bs : List Byte) (b : Byte) : (byteSet bs).testBit b.toNat = true ↔ b ∈ bs := by
  induction bs with
  | nil => simp [byteSet]
  | cons x xs ih =>
    have hx : byteSet (x :: xs) = 2 ^ x.toNat ||| byteSet xs := rfl
    rw [hx, Nat.testBit_or, Bool.or_eq_true, ih, List.mem_cons, Nat.testBit_two_pow, decide_eq_true_iff,
      BitVec.toNat_inj, eq_comm]

/-- Two lists of bytes whose sets are complements. -/
theorem mem_iff_not_mem_of_byteSet {as bs : List Byte} (h : byteSet as = byteSet bs ^^^ (2 ^ 256 - 1)) (b : Byte) :
    b ∈ as ↔ b ∉ bs := by
  rw [← testBit_byteSet, ← testBit_byteSet, h, Nat.testBit_xor, Nat.testBit_two_pow_sub_one, decide_eq_true b.isLt]
  simp

theorem OpcodeRow.finish_ne_undefinedOpcode (strict : Bool) (f g : Fields) (r : OpcodeRow) :
    r.finish strict f g ≠ .error .undefinedOpcode := by
  unfold OpcodeRow.finish
  split
  · simp
  · split <;> simp

/-- The opcode is tried first: the name is given where no row has the opcode byte, whatever else the slot holds
(30_encoding.md R61 step 2, R65). -/
theorem decodeFields_eq_undefinedOpcode (strict : Bool) (f : Fields) (g : Option Fields) :
    decodeFields strict f g = .error .undefinedOpcode ↔ f.opcode ∉ opcodeRows.map (·.opcode) := by
  have hany : opcodeRows.any (fun r => f.opcode == r.opcode) = true ↔ f.opcode ∈ opcodeRows.map (·.opcode) := by
    simp only [List.any_eq_true, List.mem_map, beq_iff_eq, eq_comm (a := f.opcode)]
  unfold decodeFields
  cases hr : opcodeRows.find? (OpcodeRow.selects f) with
  | none =>
    dsimp only
    by_cases h : f.opcode ∈ opcodeRows.map (·.opcode)
    · rw [if_pos (hany.2 h)]
      exact iff_of_false nofun (not_not_intro h)
    · rw [if_neg (mt hany.1 h)]
      exact iff_of_true rfl h
  | some r =>
    obtain ⟨hm, hs⟩ := find?_opcodeRows_eq_some.1 hr
    refine iff_of_false ?_ (not_not_intro (List.mem_map.2 ⟨r, hm, (OpcodeRow.selects_iff.1 hs).1.symm⟩))
    dsimp only
    split
    · cases g with
      | none => nofun
      | some g => exact r.finish_ne_undefinedOpcode strict f g
    · exact r.finish_ne_undefinedOpcode strict f _

/-- Settles O44: the bytes listed are the complement of the opcode bytes of the map. -/
theorem undefinedOpcodes : Obligations.UndefinedOpcodes := by
  intro e strict x y
  rw [decode, decodeFields_eq_undefinedOpcode, Slot.fields_opcode]
  exact (mem_iff_not_mem_of_byteSet (by decide +kernel) x.b0).symm

end Sys2Proof
end

section
/-! SUPPORT. Decoding undoes encoding and, under `STRICT_RESERVED`, encoding undoes decoding: each row of the opcode map
says both for the instructions of its format (30_encoding.md R59), and every instruction belongs to a row. -/

namespace Sys2Proof

/-! ## The instructions of a format -/

/-- `P` holds of every instruction that a format makes. -/
def Format.ForAll (P : Instr → Prop) : Format → Prop
  | .aluK mk | .imm64 mk | .ldInd mk => ∀ r imm, P (mk r imm)
  | .aluX mk => ∀ d s, P (mk d s)
  | .neg mk | .byteSwap mk => ∀ d, P (mk d)
  | .ja mk => ∀ off, P (mk off)
  | .ja32 mk | .call mk | .ldAbs mk => ∀ imm, P (mk imm)
  | .jmpK mk => ∀ d imm off, P (mk d imm off)
  | .jmpX mk | .ldx mk | .stx mk | .atomic mk => ∀ d s off, P (mk d s off)
  | .exit mk => P mk
  | .st mk => ∀ d off imm, P (mk d off imm)
  | .imm64Next mk => ∀ d imm next, P (mk d imm next)

theorem Format.ForAll.imp {P Q : Instr → Prop} {p : Format} (hp : p.ForAll P) (h : ∀ i, P i → Q i) : p.ForAll Q := by
  cases p
  case exit => exact h _ hp
  case neg | byteSwap | ja | ja32 | call | ldAbs => exact fun a => h _ (hp a)
  case aluK | aluX | imm64 | ldInd => exact fun a b => h _ (hp a b)
  case jmpK | jmpX | ldx | st | stx | atomic | imm64Next => exact fun a b c => h _ (hp a b c)

/-- The opcode map has a row for every instruction (30_encoding.md R62). -/
theorem Instr.forall_of_rows {P : Instr → Prop} (h : ∀ r ∈ opcodeRows, r.format.ForAll P) (i : Instr) : P i := by
  simp only [opcodeRows, List.forall_mem_append, opcodeRowsAlu64, opcodeRowsAlu32, opcodeRowsByteSwap,
    opcodeRowsControl, opcodeRowsJump64, opcodeRowsJump32, opcodeRowsLoadStore, opcodeRowsAtomic32,
    opcodeRowsAtomic64, opcodeRowsImm64, opcodeRowsPacket, List.forall_mem_cons, List.not_mem_nil, false_imp_iff,
    implies_true, and_true, Format.ForAll] at h
  cases i <;> simp only [h]

/-! ## The fields of a format -/

/-- The selectors of a format, and the fields that encode its instructions in a row with opcode `o` and selector `sel`:
the operands in the used fields, the selector's value in its field, and 0 in the unused ones (30_encoding.md R54,
R59). -/
def Format.Encodes (o : BitVec 8) (sel : Selector) : Format → Prop
  | .aluK mk => ∃ v, (sel = .none ∧ v = 0 ∨ sel = .off v) ∧
      ∀ d imm, (mk d imm).encodeFields = (⟨o, regBits d, 0, v, imm⟩, none)
  | .aluX mk => ∃ v, (sel = .none ∧ v = 0 ∨ sel = .off v) ∧
      ∀ d s, (mk d s).encodeFields = (⟨o, regBits d, regBits s, v, 0⟩, none)
  | .neg mk => sel = .none ∧ ∀ d, (mk d).encodeFields = (⟨o, regBits d, 0, 0, 0⟩, none)
  | .byteSwap mk => ∃ v, sel = .imm v ∧ ∀ d, (mk d).encodeFields = (⟨o, regBits d, 0, 0, v⟩, none)
  | .ja mk => sel = .none ∧ ∀ off, (mk off).encodeFields = (⟨o, 0, 0, off, 0⟩, none)
  | .ja32 mk | .ldAbs mk => sel = .none ∧ ∀ imm, (mk imm).encodeFields = (⟨o, 0, 0, 0, imm⟩, none)
  | .jmpK mk => sel = .none ∧ ∀ d imm off, (mk d imm off).encodeFields = (⟨o, regBits d, 0, off, imm⟩, none)
  | .jmpX mk | .ldx mk | .stx mk => sel = .none ∧
      ∀ d s off, (mk d s off).encodeFields = (⟨o, regBits d, regBits s, off, 0⟩, none)
  | .call mk => ∃ v, sel = .src v ∧ ∀ imm, (mk imm).encodeFields = (⟨o, 0, v, 0, imm⟩, none)
  | .exit mk => sel = .none ∧ mk.encodeFields = (⟨o, 0, 0, 0, 0⟩, none)
  | .st mk => sel = .none ∧ ∀ d off imm, (mk d off imm).encodeFields = (⟨o, regBits d, 0, off, imm⟩, none)
  | .atomic mk => ∃ v, sel = .imm v ∧
      ∀ d s off, (mk d s off).encodeFields = (⟨o, regBits d, regBits s, off, v⟩, none)
  | .imm64 mk => ∃ v, sel = .src v ∧ ∀ d imm, (mk d imm).encodeFields = (⟨o, regBits d, v, 0, imm⟩, some 0)
  | .imm64Next mk => ∃ v, sel = .src v ∧
      ∀ d imm next, (mk d imm next).encodeFields = (⟨o, regBits d, v, 0, imm⟩, some next)
  | .ldInd mk => sel = .none ∧ ∀ s imm, (mk s imm).encodeFields = (⟨o, 0, regBits s, 0, imm⟩, none)

/-- The encoder and the opcode map agree, row by row (30_encoding.md R59, R62). -/
theorem opcodeRows_encodes : ∀ r ∈ opcodeRows, r.format.Encodes r.opcode r.sel := by
  simp only [opcodeRows, List.forall_mem_append, opcodeRowsAlu64, opcodeRowsAlu32, opcodeRowsByteSwap,
    opcodeRowsControl, opcodeRowsJump64, opcodeRowsJump32, opcodeRowsLoadStore, opcodeRowsAtomic32,
    opcodeRowsAtomic64, opcodeRowsImm64, opcodeRowsPacket, List.forall_mem_cons, List.not_mem_nil, false_imp_iff,
    implies_true, and_true, Format.Encodes, Selector.off.injEq, Selector.imm.injEq, Selector.src.injEq,
    exists_eq_left, exists_eq_left', reduceCtorEq, true_and, false_and, or_false, false_or]
  and_intros <;> intros <;> rfl

/-! ## Decode after encode -/

/-- The fields of the second slot of an instruction, all 0 for a basic one (30_encoding.md R54). -/
def Instr.secondFields (i : Instr) : Fields := ⟨0, 0, 0, 0, i.encodeFields.2.getD 0⟩

/-- A row accepts the encoding of `i` and makes `i` of it, with every unused field zero (30_encoding.md R59, R63). -/
structure OpcodeRow.Accepts (r : OpcodeRow) (i : Instr) : Prop where
  selects : r.selects i.encodeFields.1 = true
  build : r.format.build i.encodeFields.1 i.secondFields.imm = some i
  unusedZero : r.format.unusedZero i.encodeFields.1 r.sel.isOff = true
  secondUnusedZero : r.format.secondUnusedZero i.secondFields = true

/-- A row accepts the instructions that it encodes, format by format. -/
theorem OpcodeRow.forAll_accepts {r : OpcodeRow} (h : r.format.Encodes r.opcode r.sel) : r.format.ForAll r.Accepts := by
  obtain ⟨o, sel, p⟩ := r
  cases p <;> dsimp only [Format.Encodes, Format.ForAll] at h ⊢
  case neg | ja | ja32 | jmpK | jmpX | exit | ldx | st | stx | ldAbs | ldInd =>
    obtain ⟨rfl, he⟩ := h
    intros
    constructor <;> simp [OpcodeRow.selects, Selector.holds, Format.build, Format.unusedZero,
      Format.secondUnusedZero, he]
  case byteSwap | call | atomic | imm64 | imm64Next =>
    obtain ⟨v, rfl, he⟩ := h
    intros
    constructor <;> simp [OpcodeRow.selects, Selector.holds, Format.build, Format.unusedZero, Format.secondUnusedZero,
      Instr.secondFields, he]
  case aluK | aluX =>
    obtain ⟨v, ⟨rfl, rfl⟩ | rfl, he⟩ := h <;> intros <;> constructor <;>
      simp [OpcodeRow.selects, Selector.holds, Selector.isOff, Format.build, Format.unusedZero,
        Format.secondUnusedZero, he]

/-- Every instruction has a row that accepts its encoding. -/
theorem Instr.exists_accepts (i : Instr) : ∃ r ∈ opcodeRows, r.Accepts i :=
  Instr.forall_of_rows (P := fun i => ∃ r ∈ opcodeRows, r.Accepts i)
    (fun r hr => (OpcodeRow.forAll_accepts (opcodeRows_encodes r hr)).imp fun _ ha => ⟨r, hr, ha⟩) i

/-- A row decodes a slot to what it makes of the used fields; under the strict setting the unused ones must be zero
(30_encoding.md R61 step 5, R63). -/
theorem OpcodeRow.finish_eq_ok {strict : Bool} {f g : Fields} {r : OpcodeRow} {i : Instr} :
    r.finish strict f g = .ok i ↔ r.format.build f g.imm = some i ∧ (strict = true →
      r.format.unusedZero f r.sel.isOff = true ∧ r.format.secondUnusedZero g = true) := by
  unfold OpcodeRow.finish
  cases r.format.build f g.imm with
  | none => simp
  | some j =>
    cases strict with
    | false => simp
    | true =>
      by_cases hz : r.format.unusedZero f r.sel.isOff = true ∧ r.format.secondUnusedZero g = true
      · simp [hz]
      · simp [mt Bool.and_eq_true_iff.1 hz, hz]

/-- The decoder takes the row that selects the fields. The row is given the second slot where the opcode is wide, and
zeros where it is basic (30_encoding.md R61, steps 2 to 5). -/
theorem decodeFields_eq_ok {strict : Bool} {f : Fields} {y : Option Fields} {i : Instr} :
    decodeFields strict f y = .ok i ↔ ∃ r ∈ opcodeRows, r.selects f = true ∧
      ∃ g, (if isWideOpcode f.opcode then y = some g else g = ⟨0, 0, 0, 0, 0⟩) ∧ r.finish strict f g = .ok i := by
  unfold decodeFields
  constructor
  · intro h
    cases hr : opcodeRows.find? (OpcodeRow.selects f) with
    | none => rw [hr] at h; dsimp only at h; split at h <;> cases h
    | some r =>
      obtain ⟨hm, hs⟩ := find?_opcodeRows_eq_some.1 hr
      rw [hr] at h
      refine ⟨r, hm, hs, ?_⟩
      by_cases hw : isWideOpcode f.opcode = true
      · cases y with
        | none => simp [hw] at h
        | some g => exact ⟨g, by simpa [hw] using h⟩
      · exact ⟨⟨0, 0, 0, 0, 0⟩, by simpa [hw] using h⟩
  · rintro ⟨r, hm, hs, g, hg, h⟩
    rw [find?_opcodeRows_eq_some.2 ⟨hm, hs⟩]
    by_cases hw : isWideOpcode f.opcode = true
    · rw [if_pos hw] at hg
      simpa [hw, hg] using h
    · rw [if_neg hw] at hg
      simpa [hw, hg] using h

/-- An encoding has a second slot exactly where its opcode is wide (30_encoding.md R48). -/
theorem Instr.isWideOpcode_opcode (i : Instr) : isWideOpcode i.encodeFields.1.opcode = i.encodeFields.2.isSome := by
  have h := i.slots_eq
  unfold Instr.slots at h
  split at h <;> split at h <;> simp_all

/-- The row that makes an instruction decodes its encoding; what follows a basic instruction is not read. -/
theorem decodeFields_encodeFields (strict : Bool) (i : Instr) (y : Option Fields)
    (hy : ∀ n, i.encodeFields.2 = some n → y = some ⟨0, 0, 0, 0, n⟩) :
    decodeFields strict i.encodeFields.1 y = .ok i := by
  obtain ⟨r, hm, ha⟩ := i.exists_accepts
  refine decodeFields_eq_ok.2 ⟨r, hm, ha.selects, i.secondFields, ?_,
    OpcodeRow.finish_eq_ok.2 ⟨ha.build, fun _ => ⟨ha.unusedZero, ha.secondUnusedZero⟩⟩⟩
  rw [i.isWideOpcode_opcode, Instr.secondFields]
  cases hn : i.encodeFields.2 with
  | none => simp
  | some n => simp [hy n hn]

/-- Settles O49: the first slot's fields are those of the encoding, and so are the second's where the opcode is wide. -/
theorem decodeEncode : Obligations.DecodeEncode := by
  intro e strict i
  constructor
  · rw [decode, encode, Fields.fields_slot]
    refine decodeFields_encodeFields strict i _ fun n hn => ?_
    simp [hn]
  · intro hn y
    rw [decode, encode, Fields.fields_slot]
    refine decodeFields_encodeFields strict i _ fun n hn' => ?_
    simp [encode, hn'] at hn

/-! ## Encode after decode -/

/-- `offset` holds the value of the selector, or 0 where it is unused (30_encoding.md R59). -/
theorem Selector.off_eq {sel : Selector} {v : BitVec 16} (hv : sel = .none ∧ v = 0 ∨ sel = .off v) {f : Fields}
    (hs : sel.holds f = true) (hz : sel.isOff = true ∨ f.off = 0) : f.off = v := by
  rcases hv with ⟨rfl, rfl⟩ | rfl
  · exact hz.resolve_left nofun
  · simpa [Selector.holds] using hs

theorem Selector.imm_eq {v : Word32} {f : Fields} (hs : (Selector.imm v).holds f = true) : f.imm = v := eq_of_beq hs

theorem Selector.src_eq {v : BitVec 4} {f : Fields} (hs : (Selector.src v).holds f = true) : f.src = v := eq_of_beq hs

/-- Where the unused fields are zero, what a format makes of a slot is encoded as that slot (30_encoding.md R59,
R63). -/
theorem Format.encodeFields_of_build {o : BitVec 8} {sel : Selector} {p : Format} (h : p.Encodes o sel) {f g : Fields}
    {i : Instr} (ho : f.opcode = o) (hsel : sel.holds f = true) (hb : p.build f g.imm = some i)
    (hz : p.unusedZero f sel.isOff = true) (hz' : p.secondUnusedZero g = true) :
    i.encodeFields = (f, none) ∨ i.encodeFields = (f, some g.imm) ∧ g = ⟨0, 0, 0, 0, g.imm⟩ := by
  obtain ⟨o', d, s, off, imm⟩ := f
  obtain ⟨og, dg, sg, offg, next⟩ := g
  cases p <;> simp only [Format.build, Option.map_eq_some_iff, Option.bind_eq_some_iff, Option.some.injEq] at hb <;>
    simp only [Format.unusedZero, Format.secondUnusedZero, Bool.and_eq_true, Bool.or_eq_true, beq_iff_eq] at hz hz'
  case exit | ja | ja32 | ldAbs =>
    obtain ⟨rfl, he⟩ := h
    simp [← hb, he, hz, ← ho]
  case call =>
    obtain ⟨v, rfl, he⟩ := h
    obtain rfl : s = v := Selector.src_eq hsel
    simp [← hb, he, hz, ← ho]
  case neg | jmpK | st | ldInd =>
    obtain ⟨rfl, he⟩ := h
    obtain ⟨r, hr, rfl⟩ := hb
    simp [he, regBits_of_regOf _ _ hr, hz, ← ho]
  case jmpX | ldx | stx =>
    obtain ⟨rfl, he⟩ := h
    obtain ⟨r, hr, q, hq, rfl⟩ := hb
    simp [he, regBits_of_regOf _ _ hr, regBits_of_regOf _ _ hq, hz, ← ho]
  case byteSwap =>
    obtain ⟨v, rfl, he⟩ := h
    obtain ⟨r, hr, rfl⟩ := hb
    obtain rfl : imm = v := Selector.imm_eq hsel
    simp [he, regBits_of_regOf _ _ hr, hz, ← ho]
  case atomic =>
    obtain ⟨v, rfl, he⟩ := h
    obtain ⟨r, hr, q, hq, rfl⟩ := hb
    obtain rfl : imm = v := Selector.imm_eq hsel
    simp [he, regBits_of_regOf _ _ hr, regBits_of_regOf _ _ hq, ← ho]
  case imm64 | imm64Next =>
    obtain ⟨v, rfl, he⟩ := h
    obtain ⟨r, hr, rfl⟩ := hb
    obtain rfl : s = v := Selector.src_eq hsel
    simp [he, regBits_of_regOf _ _ hr, hz, hz', ← ho]
  case aluK =>
    obtain ⟨v, hv, he⟩ := h
    obtain ⟨r, hr, rfl⟩ := hb
    obtain rfl : off = v := Selector.off_eq hv hsel hz.2
    simp [he, regBits_of_regOf _ _ hr, hz, ← ho]
  case aluX =>
    obtain ⟨v, hv, he⟩ := h
    obtain ⟨r, hr, q, hq, rfl⟩ := hb
    obtain rfl : off = v := Selector.off_eq hv hsel hz.2
    simp [he, regBits_of_regOf _ _ hr, regBits_of_regOf _ _ hq, hz, ← ho]

/-- Settles O50: the row through which a slot decodes encodes the instruction as that slot. -/
theorem encodeDecode : Obligations.EncodeDecode := by
  intro e x y i h
  obtain ⟨r, hm, hs, g, hg, hf⟩ := decodeFields_eq_ok.1 h
  obtain ⟨ho, hsel⟩ := OpcodeRow.selects_iff.1 hs
  obtain ⟨hb, hzero⟩ := OpcodeRow.finish_eq_ok.1 hf
  obtain ⟨hz, hz'⟩ := hzero rfl
  rcases Format.encodeFields_of_build (opcodeRows_encodes r hm) ho hsel hb hz hz' with he | ⟨he, hg0⟩
  · simp [encode, he]
  · have hw : isWideOpcode (x.fields e).opcode = true := by
      have hi := i.isWideOpcode_opcode
      rwa [he] at hi
    rw [if_pos hw, Option.map_eq_some_iff] at hg
    obtain ⟨z, rfl, rfl⟩ := hg
    simp only [encode, he, Slot.slot_fields, Option.map_some, true_and]
    rw [← hg0, Slot.slot_fields]
    exact .inr rfl

end Sys2Proof
end

section
/-! SUPPORT. The bytes and the canonical word of a slot, words written out in the spec, the step of a decoded
instruction, and the constant of `lddw`. -/

namespace Sys2Proof

/-! ## Bytes and canonical words -/

/-- Settles O46: the layout of R49, and the `regs` byte of R50, whose two fields change places with the host. -/
theorem slotLayout : Obligations.SlotLayout :=
  fun f => ⟨rfl, rfl, fun e => f.fields_slot e, fun _ => ⟨rfl, rfl⟩⟩

/-- The lower part of an appended word counts singly, the upper part by its place. -/
theorem toNat_append_eq_add {v w : Nat} (a : BitVec v) (b : BitVec w) : (a ++ b).toNat = b.toNat + 2 ^ w * a.toNat := by
  rw [BitVec.toNat_append, ← Nat.shiftLeft_add_eq_or_of_lt b.isLt, Nat.shiftLeft_eq, Nat.mul_comm, Nat.add_comm]

theorem Fields.toNat_word (f : Fields) : f.word.toNat = f.opcode.toNat + 2 ^ 8 * f.dst.toNat + 2 ^ 12 * f.src.toNat +
    2 ^ 16 * f.off.toNat + 2 ^ 32 * f.imm.toNat := by
  simp only [Fields.word, toNat_append_eq_add]
  omega

/-- The two fields of the `regs` byte. -/
theorem toNat_nibbles (b : Byte) : (b.extractLsb' 0 4).toNat + 2 ^ 4 * (b.extractLsb' 4 4).toNat = b.toNat := by
  rw [← toNat_append_eq_add, nibbles_append]

/-- On a little-endian host the canonical word is the slot read as one number (30_encoding.md R51). -/
theorem Slot.toNat_word_little (x : Slot) : (x.fields .little).word.toNat =
    Machine.ofBytesLittle [x.b0, x.b1, x.b2, x.b3, x.b4, x.b5, x.b6, x.b7] := by
  have hregs := toNat_nibbles x.b1
  simp only [Fields.toNat_word, Slot.fields, toNat_append_eq_add, Machine.ofBytesLittle]
  omega

/-- Settles O47: the places of the fields, and the four bytes or two fields of each. -/
theorem canonicalWord : Obligations.CanonicalWord :=
  ⟨fun f => ⟨f.toNat_word, f.ofWord_word⟩, Slot.toNat_word_little⟩

/-! ## Words written out in the spec -/

/-- The slots that encode an instruction decode to it. -/
theorem decode_eq_ok_of_encode {e : HostEndian} {i : Instr} {x : Slot} {y : Option Slot} (h : encode e i = (x, y))
    (strict : Bool) : decode e strict x y = .ok i := by
  have hd := (decodeEncode e strict i).1
  rwa [h] at hd

/-- Settles O48: each word is the encoding of its instruction; the decoder is run on the four that stand for none. -/
theorem workedEncodings : Obligations.WorkedEncodings := by
  refine ⟨fun p hp => ?words, decode_eq_ok_of_encode ?wide true, ?cutOff, ?reserved, ?selector, ?register⟩
  case words =>
    refine decode_eq_ok_of_encode (?_ : encode p.1 p.2.2 = (p.2.1, none)) true
    revert p
    decide
  case wide => rfl
  case cutOff | reserved | selector | register => decide +kernel

end Sys2Proof

namespace Sys2Proof.Machine

/-! ## The step of a decoded instruction -/

/-- Settles O51: the fetch gives the decoded instruction, and a step executes what is fetched. -/
theorem stepRunsTheDecodedInstruction : Obligations.StepRunsTheDecodedInstruction := by
  intro s x i hr hs hx hd hw
  have hf : s.fetch = .ok i := State.fetch_eq_ok.2 ⟨hs, x, hx, hd, hw⟩
  rw [step, hr, hf]

/-! ## `lddw` -/

/-- A register written and `pc` moved on, with everything else as before (40_alu.md R79; 45_imm64.md R269). -/
theorem registerResult_setReg_advance (s : State) (d : Reg) (v : Word) (k : Nat) :
    RegisterResult d v k s ((s.setReg d v).advance k) := by
  refine ⟨?_, keepsRegsBut_setReg (fun _ => rfl) d v, rfl, rfl, fun a => ?_, ⟨⟨rfl, rfl, rfl, rfl⟩, rfl⟩, ⟨rfl, rfl⟩,
    ⟨⟨rfl, rfl⟩, rfl, rfl⟩⟩
  · rw [State.advance_reg, State.reg_setReg_same]
  · rfl

/-- Settles O36: the constant is the two `imm` fields side by side (30_encoding.md R55). -/
theorem loadDoubleWordResult : Obligations.LoadDoubleWordResult := by
  intro s d imm next hw
  have hx : exec (.lddw d imm next) s = commit (wideValue (next ++ imm) d s) := rfl
  have hv : next ++ imm = next.setWidth 64 <<< 32 ||| imm.setWidth 64 := by
    rw [← BitVec.setWidth_append_eq_shiftLeft_setWidth_or, BitVec.setWidth_eq]
  refine ⟨_, hx.trans ((commit_eq_next _ _).2 ((wideValue_eq_ok ..).2 ⟨hw, rfl⟩)), ?_⟩
  rw [hv]
  exact registerResult_setReg_advance s d _ 2

end Sys2Proof.Machine
end

section
/-! SUPPORT. The next state of an arithmetic instruction: one register receives a value, for each operand form of
40_alu.md, with the results of the operations that wrap, shift and move. -/

namespace Sys2Proof.Machine

/-- The outcome `o` of an instruction of one slot is a next state that differs from `s` by `v` in register `d` and by `pc`
(40_alu.md R79). -/
def Yields (d : Reg) (v : Word) (s : State) (o : Host.Outcome State Fault Refusal) : Prop :=
  ∃ t, o = .next t ∧ RegisterResult d v 1 s t

namespace Yields

variable {s : State} {d r : Reg} {imm : Word32} {a b v : Word}

theorem of_eq_ok {x : Except Fault State} (h : x = .ok ((s.setReg d v).advance 1)) : Yields d v s (commit x) :=
  ⟨_, (commit_eq_next _ _).2 h, registerResult_setReg_advance s d v 1⟩

theorem exists_reg {o : Host.Outcome State Fault Refusal} (h : Yields d v s o) :
    ∃ t, o = .next t ∧ t.reg d = some v := by
  obtain ⟨t, hx, hreg, _⟩ := h
  exact ⟨t, hx, hreg⟩

/-! ## The operand forms -/

theorem alu64Imm {f : Word → Word → Word} (hw : s.Writable d) (ha : s.reg d = some a)
    (hv : f a (imm.signExtend 64) = v) : Yields d v s (commit (alu64Imm f d imm s)) :=
  of_eq_ok ((alu64Imm_eq_ok ..).2 ⟨hw, a, ha, hv ▸ rfl⟩)

theorem alu64Reg {f : Word → Word → Word} (hw : s.Writable d) (ha : s.reg d = some a) (hb : s.reg r = some b)
    (hv : f a b = v) : Yields d v s (commit (alu64Reg f d r s)) :=
  of_eq_ok ((alu64Reg_eq_ok ..).2 ⟨hw, a, ha, b, hb, hv ▸ rfl⟩)

theorem alu32Imm {f : Word32 → Word32 → Word32} {w : Word32} (hw : s.Writable d) (ha : s.reg d = some a)
    (hv : f (a.setWidth 32) imm = w) : Yields d (w.setWidth 64) s (commit (alu32Imm f d imm s)) :=
  of_eq_ok ((alu32Imm_eq_ok ..).2 ⟨hw, a, ha, hv ▸ rfl⟩)

theorem alu32Reg {f : Word32 → Word32 → Word32} {w : Word32} (hw : s.Writable d) (ha : s.reg d = some a)
    (hb : s.reg r = some b) (hv : f (a.setWidth 32) (b.setWidth 32) = w) :
    Yields d (w.setWidth 64) s (commit (alu32Reg f d r s)) :=
  of_eq_ok ((alu32Reg_eq_ok ..).2 ⟨hw, a, ha, b, hb, hv ▸ rfl⟩)

theorem unary {f : Word → Word} (hw : s.Writable d) (ha : s.reg d = some a) (hv : f a = v) :
    Yields d v s (commit (unary f d s)) :=
  of_eq_ok ((unary_eq_ok ..).2 ⟨hw, a, ha, hv ▸ rfl⟩)

theorem moveValue (hw : s.Writable d) : Yields d v s (commit (moveValue v d s)) :=
  of_eq_ok ((moveValue_eq_ok ..).2 ⟨hw, rfl⟩)

theorem moveReg {f : Word → Word} (hw : s.Writable d) (hb : s.reg r = some b) (hv : f b = v) :
    Yields d v s (commit (moveReg f d r s)) :=
  of_eq_ok ((moveReg_eq_ok ..).2 ⟨hw, b, hb, hv ▸ rfl⟩)

end Yields

/-! ## Operations that wrap, shifts and moves -/

/-- Settles O1: each operation is the one of its operand form, and NEG subtracts from 0. -/
theorem alu64Results : Obligations.Alu64Results := by
  intro s d r imm a b hw ha hb
  change ∀ p : Instr × Word, p ∈ _ → Yields d p.2 s (exec p.1 s)
  simp only [List.forall_mem_cons]
  exact ⟨.alu64Imm hw ha rfl, .alu64Reg hw ha hb rfl, .alu64Imm hw ha rfl, .alu64Reg hw ha hb rfl,
    .alu64Imm hw ha rfl, .alu64Reg hw ha hb rfl, .alu64Imm hw ha rfl, .alu64Reg hw ha hb rfl,
    .alu64Imm hw ha rfl, .alu64Reg hw ha hb rfl, .alu64Imm hw ha rfl, .alu64Reg hw ha hb rfl,
    .unary hw ha (BitVec.zero_sub a), List.forall_mem_nil _⟩

/-- Settles O2: as O1, on the low halves. -/
theorem alu32Results : Obligations.Alu32Results := by
  intro s d r imm a b hw ha hb
  change ∀ p : Instr × Word32, p ∈ _ → Yields d (p.2.setWidth 64) s (exec p.1 s)
  simp only [List.forall_mem_cons]
  exact ⟨.alu32Imm hw ha rfl, .alu32Reg hw ha hb rfl, .alu32Imm hw ha rfl, .alu32Reg hw ha hb rfl,
    .alu32Imm hw ha rfl, .alu32Reg hw ha hb rfl, .alu32Imm hw ha rfl, .alu32Reg hw ha hb rfl,
    .alu32Imm hw ha rfl, .alu32Reg hw ha hb rfl, .alu32Imm hw ha rfl, .alu32Reg hw ha hb rfl,
    .unary hw ha (congrArg zext32 (BitVec.zero_sub _)), List.forall_mem_nil _⟩

/-- Settles O4: the operations take the masked count of the source operand. -/
theorem shiftResults : Obligations.ShiftResults := by
  intro s d r imm a b hw ha hb
  change ∀ p : Instr × Word, p ∈ _ → Yields d p.2 s (exec p.1 s)
  simp only [List.forall_mem_cons]
  exact ⟨.alu64Imm hw ha rfl, .alu64Reg hw ha hb rfl, .alu64Imm hw ha rfl, .alu64Reg hw ha hb rfl,
    .alu64Imm hw ha rfl, .alu64Reg hw ha hb rfl, .alu32Imm hw ha rfl, .alu32Reg hw ha hb rfl,
    .alu32Imm hw ha rfl, .alu32Reg hw ha hb rfl, .alu32Imm hw ha rfl, .alu32Reg hw ha hb rfl, List.forall_mem_nil _⟩

/-- The 32-bit sign extension of a part of the low half extends that part of the register (40_alu.md R77). -/
theorem sextLow_low32 {k : Nat} (hk : k ≤ 32) (v : Word) : sextLow k (low32 v) = (v.setWidth k).signExtend 32 := by
  rw [sextLow, low32, BitVec.setWidth_setWidth_of_le v hk]

/-- Settles O8: no move reads its destination, and MOVSX extends a part of the source. -/
theorem moveResults : Obligations.MoveResults := by
  intro s d r imm b hw hb
  change ∀ p : Instr × Word, p ∈ _ → Yields d p.2 s (exec p.1 s)
  simp only [List.forall_mem_cons]
  exact ⟨.moveValue hw, .moveReg hw hb rfl, .moveValue hw, .moveReg hw hb rfl, .moveReg hw hb rfl, .moveReg hw hb rfl,
    .moveReg hw hb rfl, .moveReg hw hb (congrArg zext32 (sextLow_low32 (by decide) b)),
    .moveReg hw hb (congrArg zext32 (sextLow_low32 (by decide) b)), List.forall_mem_nil _⟩

/-- Settles O9: the value moved does not depend on the state. -/
theorem immediateMovesNeedNoRegister : Obligations.ImmediateMovesNeedNoRegister :=
  fun _ _ _ hw => ⟨Yields.moveValue hw, Yields.moveValue hw⟩

/-! ## 32-bit operations in two states -/

/-- Two outcomes are next states that hold the same zero-extended 32-bit number in register `d` (40_alu.md R72). -/
def SameLowResult (d : Reg) (o o' : Host.Outcome State Fault Refusal) : Prop :=
  ∃ (t t' : State) (w : Word32), o = .next t ∧ o' = .next t' ∧ t.reg d = some (w.setWidth 64) ∧
    t'.reg d = some (w.setWidth 64)

theorem SameLowResult.of_yields {d : Reg} {w : Word32} {s s' : State} {o o' : Host.Outcome State Fault Refusal}
    (h : Yields d (w.setWidth 64) s o) (h' : Yields d (w.setWidth 64) s' o') : SameLowResult d o o' := by
  obtain ⟨t, hx, hreg⟩ := h.exists_reg
  obtain ⟨t', hx', hreg'⟩ := h'.exists_reg
  exact ⟨t, t', w, hx, hx', hreg, hreg'⟩

/-- Settles O5: in each operand form both states yield the operation on the same low halves; signed division takes its
overflow values from the same parameters. -/
theorem alu32UsesLowHalvesOnly : Obligations.Alu32UsesLowHalvesOnly := by
  intro s s' d r imm a b a' b' hw ha hb hw' ha' hb' hparams hla hlb
  have immForm {f f' : Word32 → Word32 → Word32} (hf : f' = f) :
      SameLowResult d (commit (alu32Imm f d imm s)) (commit (alu32Imm f' d imm s')) :=
    .of_yields (.alu32Imm hw ha rfl) (.alu32Imm hw' ha' (by rw [hf, hla]))
  have regForm {f f' : Word32 → Word32 → Word32} (hf : f' = f) :
      SameLowResult d (commit (alu32Reg f d r s)) (commit (alu32Reg f' d r s')) :=
    .of_yields (.alu32Reg hw ha hb rfl) (.alu32Reg hw' ha' hb' (by rw [hf, hla, hlb]))
  have moveForm (f : Word32 → Word32) : SameLowResult d (commit (moveReg (fun v => zext32 (f (low32 v))) d r s))
      (commit (moveReg (fun v => zext32 (f (low32 v))) d r s')) :=
    .of_yields (.moveReg hw hb rfl) (.moveReg hw' hb' (by rw [low32, ← hlb]; rfl))
  have unaryForm (f : Word32 → Word32) : SameLowResult d (commit (unary (fun v => zext32 (f (low32 v))) d s))
      (commit (unary (fun v => zext32 (f (low32 v))) d s')) :=
    .of_yields (.unary hw ha rfl) (.unary hw' ha' (by rw [low32, ← hla]; rfl))
  refine ⟨?rows, (Yields.alu32Reg hw ha hb rfl).exists_reg, (Yields.alu64Reg hw ha hb rfl).exists_reg,
    (Yields.alu32Imm hw ha rfl).exists_reg, (Yields.alu64Imm hw ha rfl).exists_reg⟩
  change ∀ i ∈ _, SameLowResult d (exec i s) (exec i s')
  simp only [List.forall_mem_cons]
  exact ⟨immForm rfl, regForm rfl, immForm rfl, regForm rfl, immForm rfl, regForm rfl, immForm rfl, regForm rfl,
    immForm (by rw [hparams]), regForm (by rw [hparams]), immForm rfl, regForm rfl, immForm rfl, regForm rfl,
    immForm rfl, regForm rfl, immForm rfl, regForm rfl, immForm rfl, regForm rfl, immForm (by rw [hparams]),
    regForm (by rw [hparams]), immForm rfl, regForm rfl, .of_yields (.moveValue hw) (.moveValue hw'),
    moveForm fun w => w, immForm rfl, regForm rfl, unaryForm (0#32 - ·), moveForm (sextLow 8), moveForm (sextLow 16),
    List.forall_mem_nil _⟩

/-! ## Completion -/

/-- With the registers `rs` written, the outcome is a next state. -/
def Completes (rs : List Reg) (s : State) (o : Host.Outcome State Fault Refusal) : Prop :=
  (∀ r ∈ rs, s.reg r ≠ none) → ∃ t, o = .next t

namespace Completes

variable {rs : List Reg} {s : State}

theorem done (t : State) : Completes rs s (commit (return t)) := fun _ => ⟨t, rfl⟩

theorem read {r : Reg} {k : Word → Except Fault State} (h : ∀ v, Completes rs s (commit (k v))) :
    Completes (r :: rs) s (commit (s.readReg r >>= k)) := by
  intro hrs
  obtain ⟨hr, hrs⟩ := List.forall_mem_cons.1 hrs
  obtain ⟨v, hv⟩ := Option.ne_none_iff_exists'.1 hr
  rw [(s.readReg_eq_ok r v).2 hv]
  exact h v hrs

theorem checkDest {d : Reg} {k : Unit → Except Fault State} (hw : s.Writable d)
    (h : Completes rs s (commit (k ()))) : Completes rs s (commit (s.checkDest d >>= k)) := by
  rw [(s.checkDest_eq_ok d ()).2 hw]
  exact h

variable {d : Reg} (hw : s.Writable d)

include hw

theorem alu64Imm (f : Word → Word → Word) (imm : Word32) : Completes [d] s (commit (alu64Imm f d imm s)) :=
  checkDest hw (read fun _ => done _)

theorem alu64Reg (f : Word → Word → Word) (r : Reg) : Completes [d, r] s (commit (alu64Reg f d r s)) :=
  checkDest hw (read fun _ => read fun _ => done _)

theorem alu32Imm (f : Word32 → Word32 → Word32) (imm : Word32) : Completes [d] s (commit (alu32Imm f d imm s)) :=
  checkDest hw (read fun _ => done _)

theorem alu32Reg (f : Word32 → Word32 → Word32) (r : Reg) : Completes [d, r] s (commit (alu32Reg f d r s)) :=
  checkDest hw (read fun _ => read fun _ => done _)

theorem unary (f : Word → Word) : Completes [d] s (commit (unary f d s)) := checkDest hw (read fun _ => done _)

theorem moveValue (v : Word) : Completes [] s (commit (moveValue v d s)) := checkDest hw (done _)

theorem moveReg (f : Word → Word) (r : Reg) : Completes [r] s (commit (moveReg f d r s)) :=
  checkDest hw (read fun _ => done _)

end Completes

/-- Every instruction of class ALU or ALU64 by its operand form; the opcode of any other names another class. -/
theorem exec_completes (i : Instr) (s : State) (hc : i.opcodeClass = 4 ∨ i.opcodeClass = 7)
    (hw : ∀ d, i.destination = some d → s.Writable d) : Completes i.reads s (exec i s) := by
  cases i with
  | add64Imm | sub64Imm | mul64Imm | div64Imm | sdiv64Imm | or64Imm | and64Imm | lsh64Imm | rsh64Imm | mod64Imm
  | smod64Imm | xor64Imm | arsh64Imm =>
    exact .alu64Imm (hw _ rfl) _ _
  | add64Reg | sub64Reg | mul64Reg | div64Reg | sdiv64Reg | or64Reg | and64Reg | lsh64Reg | rsh64Reg | mod64Reg
  | smod64Reg | xor64Reg | arsh64Reg =>
    exact .alu64Reg (hw _ rfl) _ _
  | add32Imm | sub32Imm | mul32Imm | div32Imm | sdiv32Imm | or32Imm | and32Imm | lsh32Imm | rsh32Imm | mod32Imm
  | smod32Imm | xor32Imm | arsh32Imm =>
    exact .alu32Imm (hw _ rfl) _ _
  | add32Reg | sub32Reg | mul32Reg | div32Reg | sdiv32Reg | or32Reg | and32Reg | lsh32Reg | rsh32Reg | mod32Reg
  | smod32Reg | xor32Reg | arsh32Reg =>
    exact .alu32Reg (hw _ rfl) _ _
  | neg64 | neg32 | le16 | le32 | le64 | be16 | be32 | be64 | bswap16 | bswap32 | bswap64 =>
    exact .unary (hw _ rfl) _
  | mov64Imm | mov32Imm =>
    exact .moveValue (hw _ rfl) _
  | mov64Reg | mov32Reg | movsx64From8 | movsx64From16 | movsx64From32 | movsx32From8 | movsx32From16 =>
    exact .moveReg (hw _ rfl) _ _
  | _ => simp [Instr.opcodeClass, Instr.encodeFields] at hc

/-- Settles O42, by the operand forms: only an unwritten register or a destination that may not be written faults. -/
theorem arithmeticNeverFaultsOnValues : Obligations.ArithmeticNeverFaultsOnValues :=
  fun s i hc hw hr => exec_completes i s hc hw hr

end Sys2Proof.Machine
end

section
/-! SUPPORT. Division and modulo (40_alu.md R71, R73 to R75): the three cases of their results, and truncated division as
the signed division of bit vectors. -/

namespace Sys2Proof.Machine

/-! ## The operations -/

section

variable {n : Nat} (overflow a b : BitVec n)

/-- The model asks whether a divisor is zero of its unsigned value. -/
theorem toNat_eq_zero_iff : b.toNat = 0 ↔ b = 0#n := by
  rw [← BitVec.toNat_inj, BitVec.toNat_ofNat, Nat.zero_mod]

theorem signedOverflow_iff : signedOverflow a b = true ↔ a = BitVec.intMin n ∧ b = -1#n := by
  rw [signedOverflow, Bool.and_eq_true, beq_iff_eq, beq_iff_eq, BitVec.neg_one_eq_allOnes]

variable {b}

theorem udiv_of_eq_zero (hb : b = 0#n) : udiv a b = 0#n := if_pos ((toNat_eq_zero_iff b).2 hb)

theorem umod_of_eq_zero (hb : b = 0#n) : umod a b = a := if_pos ((toNat_eq_zero_iff b).2 hb)

theorem sdiv_of_eq_zero (hb : b = 0#n) : sdiv overflow a b = 0#n := if_pos ((toNat_eq_zero_iff b).2 hb)

theorem smod_of_eq_zero (hb : b = 0#n) : smod overflow a b = a := if_pos ((toNat_eq_zero_iff b).2 hb)

variable (hb : b ≠ 0#n)

include hb

theorem udiv_of_ne_zero : udiv a b = BitVec.ofNat n (a.toNat / b.toNat) := if_neg (mt (toNat_eq_zero_iff b).1 hb)

theorem umod_of_ne_zero : umod a b = BitVec.ofNat n (a.toNat % b.toNat) := if_neg (mt (toNat_eq_zero_iff b).1 hb)

theorem sdiv_of_ne_zero : sdiv overflow a b =
    if a = BitVec.intMin n ∧ b = -1#n then overflow else BitVec.ofInt n (a.toInt.tdiv b.toInt) := by
  simp only [sdiv, toNat_eq_zero_iff, hb, if_false, signedOverflow_iff]

theorem smod_of_ne_zero : smod overflow a b =
    if a = BitVec.intMin n ∧ b = -1#n then overflow
    else BitVec.ofInt n (a.toInt - b.toInt * a.toInt.tdiv b.toInt) := by
  simp only [smod, toNat_eq_zero_iff, hb, if_false, signedOverflow_iff]

/-! ## Truncated division (40_alu.md R74) -/

variable {a} (hno : ¬(a = BitVec.intMin n ∧ b = -1#n))

include hno

/-- Outside the overflow case the quotient fits, so that wrapping does not change it. -/
theorem toInt_sdiv : (sdiv overflow a b).toInt = a.toInt.tdiv b.toInt := by
  have hfits : (a.sdiv b).toInt = a.toInt.tdiv b.toInt :=
    BitVec.toInt_sdiv_of_ne_or_ne a b (not_and_or.1 hno)
  rw [sdiv_of_ne_zero overflow a hb, if_neg hno, ← hfits, BitVec.ofInt_toInt]

theorem toInt_smod : (smod overflow a b).toInt = a.toInt.tmod b.toInt := by
  rw [smod_of_ne_zero overflow a hb, if_neg hno, ← Int.tmod_def, ← BitVec.toInt_srem, BitVec.ofInt_toInt]

end

/-- The remainder of truncated division is not of the opposite sign to the dividend. -/
theorem mul_tmod_nonneg (x y : Int) : 0 ≤ x * x.tmod y := by
  rcases Int.le_total 0 x with hx | hx
  · exact Int.mul_nonneg hx (Int.tmod_nonneg y hx)
  · have hneg : 0 ≤ -x.tmod y := by
      rw [← Int.neg_tmod]
      exact Int.tmod_nonneg y (by omega)
    exact Int.mul_nonneg_of_nonpos_of_nonpos hx (by omega)

/-- The quotient and the remainder of SDIV and SMOD give back the dividend (40_alu.md R74). -/
theorem sdiv_smod_truncated {n : Nat} (overflow overflow' : BitVec n) {a b : BitVec n} (hb : b ≠ 0#n)
    (hno : ¬(a = BitVec.intMin n ∧ b = -1#n)) :
    a.toInt = b.toInt * (sdiv overflow a b).toInt + (smod overflow' a b).toInt ∧
      (smod overflow' a b).toInt.natAbs < b.toInt.natAbs ∧ 0 ≤ a.toInt * (smod overflow' a b).toInt := by
  have hbi : b.toInt ≠ 0 := fun h => hb (BitVec.toInt_inj.1 (h.trans BitVec.toInt_zero.symm))
  rw [toInt_sdiv overflow hb hno, toInt_smod overflow' hb hno]
  refine ⟨(Int.mul_tdiv_add_tmod _ _).symm, ?_, mul_tmod_nonneg _ _⟩
  rw [Int.natAbs_tmod]
  exact Nat.mod_lt _ (Int.natAbs_pos.2 hbi)

/-! ## The statements -/

/-- Settles O3: each operation has a value for the divisor 0. -/
theorem zeroDivisorResults : Obligations.ZeroDivisorResults := by
  intro s d r imm a b hw ha hb
  refine ⟨fun hz => ?reg64, fun hz => ?imm, fun hz => ?reg32⟩
  all_goals
    change ∀ p : Instr × Word, p ∈ _ → Yields d p.2 s (exec p.1 s)
    simp only [List.forall_mem_cons]
  case reg64 =>
    exact ⟨.alu64Reg hw ha hb (udiv_of_eq_zero a hz), .alu64Reg hw ha hb (sdiv_of_eq_zero _ a hz),
      .alu64Reg hw ha hb (umod_of_eq_zero a hz), .alu64Reg hw ha hb (smod_of_eq_zero _ a hz), List.forall_mem_nil _⟩
  case imm =>
    have hz64 : imm.signExtend 64 = 0#64 := by rw [hz]; rfl
    exact ⟨.alu64Imm hw ha (udiv_of_eq_zero a hz64), .alu64Imm hw ha (sdiv_of_eq_zero _ a hz64),
      .alu64Imm hw ha (umod_of_eq_zero a hz64), .alu64Imm hw ha (smod_of_eq_zero _ a hz64),
      .alu32Imm (w := 0#32) hw ha (udiv_of_eq_zero _ hz), .alu32Imm (w := 0#32) hw ha (sdiv_of_eq_zero _ _ hz),
      .alu32Imm hw ha (umod_of_eq_zero _ hz), .alu32Imm hw ha (smod_of_eq_zero _ _ hz), List.forall_mem_nil _⟩
  case reg32 =>
    exact ⟨.alu32Reg (w := 0#32) hw ha hb (udiv_of_eq_zero _ hz),
      .alu32Reg (w := 0#32) hw ha hb (sdiv_of_eq_zero _ _ hz),
      .alu32Reg hw ha hb (umod_of_eq_zero _ hz), .alu32Reg hw ha hb (smod_of_eq_zero _ _ hz), List.forall_mem_nil _⟩

/-- Settles O6: each operation by its equation for a divisor that is not 0. -/
theorem divisionResults : Obligations.DivisionResults := by
  intro s d r imm a b hw ha hb
  refine ⟨fun hn => ?imm64, fun hn => ?reg64, fun hn => ?imm32, fun hn => ?reg32⟩
  case imm64 =>
    change ∀ p : Instr × Word, p ∈ _ → Yields d p.2 s (exec p.1 s)
    simp only [List.forall_mem_cons]
    exact ⟨.alu64Imm hw ha (udiv_of_ne_zero a hn), .alu64Imm hw ha (umod_of_ne_zero a hn),
      .alu64Imm hw ha (sdiv_of_ne_zero _ a hn), .alu64Imm hw ha (smod_of_ne_zero _ a hn), List.forall_mem_nil _⟩
  case reg64 =>
    change ∀ p : Instr × Word, p ∈ _ → Yields d p.2 s (exec p.1 s)
    simp only [List.forall_mem_cons]
    exact ⟨.alu64Reg hw ha hb (udiv_of_ne_zero a hn), .alu64Reg hw ha hb (umod_of_ne_zero a hn),
      .alu64Reg hw ha hb (sdiv_of_ne_zero _ a hn), .alu64Reg hw ha hb (smod_of_ne_zero _ a hn), List.forall_mem_nil _⟩
  case imm32 =>
    change ∀ p : Instr × Word32, p ∈ _ → Yields d (p.2.setWidth 64) s (exec p.1 s)
    simp only [List.forall_mem_cons]
    exact ⟨.alu32Imm hw ha (udiv_of_ne_zero _ hn), .alu32Imm hw ha (umod_of_ne_zero _ hn),
      .alu32Imm hw ha (sdiv_of_ne_zero _ _ hn), .alu32Imm hw ha (smod_of_ne_zero _ _ hn), List.forall_mem_nil _⟩
  case reg32 =>
    change ∀ p : Instr × Word32, p ∈ _ → Yields d (p.2.setWidth 64) s (exec p.1 s)
    simp only [List.forall_mem_cons]
    exact ⟨.alu32Reg hw ha hb (udiv_of_ne_zero _ hn), .alu32Reg hw ha hb (umod_of_ne_zero _ hn),
      .alu32Reg hw ha hb (sdiv_of_ne_zero _ _ hn), .alu32Reg hw ha hb (smod_of_ne_zero _ _ hn), List.forall_mem_nil _⟩

/-- Settles O7: each row is a quotient and a remainder of the same operands. -/
theorem signedDivisionIsTruncated : Obligations.SignedDivisionIsTruncated := by
  intro s d r imm a b hw ha hb
  refine ⟨fun p hp hn hno => ?alu64, fun p hp hn hno => ?alu32⟩
  case alu64 =>
    have hx : Yields d (sdiv s.params.sdivOverflow.quot64 a p.2.2) s (exec p.1 s) ∧
        Yields d (smod s.params.sdivOverflow.rem64 a p.2.2) s (exec p.2.1 s) := by
      clear hn hno
      revert p
      simp only [List.forall_mem_cons]
      exact ⟨⟨.alu64Reg hw ha hb rfl, .alu64Reg hw ha hb rfl⟩, ⟨.alu64Imm hw ha rfl, .alu64Imm hw ha rfl⟩,
        List.forall_mem_nil _⟩
    obtain ⟨hquot, hrem⟩ := hx
    obtain ⟨t, ht, hq⟩ := hquot.exists_reg
    obtain ⟨u, hu, hm⟩ := hrem.exists_reg
    exact ⟨t, u, _, _, ht, hu, hq, hm, sdiv_smod_truncated _ _ hn hno⟩
  case alu32 =>
    have hx : Yields d ((sdiv s.params.sdivOverflow.quot32 (a.setWidth 32) p.2.2).setWidth 64) s (exec p.1 s) ∧
        Yields d ((smod s.params.sdivOverflow.rem32 (a.setWidth 32) p.2.2).setWidth 64) s (exec p.2.1 s) := by
      clear hn hno
      revert p
      simp only [List.forall_mem_cons]
      exact ⟨⟨.alu32Reg hw ha hb rfl, .alu32Reg hw ha hb rfl⟩, ⟨.alu32Imm hw ha rfl, .alu32Imm hw ha rfl⟩,
        List.forall_mem_nil _⟩
    obtain ⟨hquot, hrem⟩ := hx
    obtain ⟨t, ht, hq⟩ := hquot.exists_reg
    obtain ⟨u, hu, hm⟩ := hrem.exists_reg
    exact ⟨t, u, _, _, ht, hu, hq, hm, sdiv_smod_truncated _ _ hn hno⟩

end Sys2Proof.Machine
end

section
/-! SUPPORT. The byte swaps (41_byteswap.md): the bytes of their results on either host, and what two swaps leave. -/

namespace Sys2Proof.Machine

/-! ## The bytes of a result -/

/-- `v` is the unsigned number of the low `n` bytes of `a`, in reverse order where `rev` says so (00_scope.md R12;
41_byteswap.md R145; log 20). -/
def OrderedBytes (n : Nat) (rev : Bool) (a v : Word) : Prop :=
  v.toNat < 2 ^ (8 * n) ∧
    ∀ i < n, v.extractLsb' (8 * i) 8 = a.extractLsb' (8 * (if rev then n - 1 - i else i)) 8

theorem orderedBytes_lowBytes (n : AccessSize) (a : Word) : OrderedBytes n.bytes false a (lowBytes n.bytes a) := by
  refine ⟨?_, fun i hi => lowBytes_extract n a i hi⟩
  rw [toNat_lowBytes]
  exact Nat.mod_lt _ (Nat.two_pow_pos _)

theorem orderedBytes_swapBytes (n : AccessSize) (a : Word) : OrderedBytes n.bytes true a (swapBytes n.bytes a) := by
  have hlen : (toBytes .big n.bytes a).length = n.bytes := toBytes_length .big n.bytes a
  obtain ⟨hlt, hbytes⟩ := ofBytesLittle_bytes (toBytes .big n.bytes a) (by rw [hlen]; cases n <;> decide)
  rw [hlen] at hlt
  exact ⟨hlt, fun i hi => (hbytes i (hlen.symm ▸ hi)).trans (toBytes_getElem .big n.bytes a i (hlen.symm ▸ hi))⟩

/-- The outcome `o` is a next state that differs from `s` by those low bytes of `a` in register `d` and by `pc`
(41_byteswap.md R144). -/
def YieldsBytes (d : Reg) (n : Nat) (rev : Bool) (a : Word) (s : State) (o : Host.Outcome State Fault Refusal) : Prop :=
  ∃ t v, o = .next t ∧ RegisterResult d v 1 s t ∧ OrderedBytes n rev a v

section

variable {s : State} {d : Reg} {a : Word}

theorem YieldsBytes.unary {f : Word → Word} {n : Nat} {rev : Bool} (hw : s.Writable d) (ha : s.reg d = some a)
    (hf : OrderedBytes n rev a (f a)) : YieldsBytes d n rev a s (commit (unary f d s)) := by
  obtain ⟨t, hx, hres⟩ := Yields.unary hw ha rfl
  exact ⟨t, f a, hx, hres, hf⟩

/-- The nine swaps, where the host's byte order decides whether `leN` and `beN` reverse (41_byteswap.md R144). -/
theorem byteSwaps_yieldBytes {le be : Bool} (hw : s.Writable d) (ha : s.reg d = some a)
    (hle : ∀ n : AccessSize, OrderedBytes n.bytes le a (toLittleEndian s.params.hostEndian n.bytes a))
    (hbe : ∀ n : AccessSize, OrderedBytes n.bytes be a (toBigEndian s.params.hostEndian n.bytes a)) :
    ∀ p ∈ ([
      (.le16 d, 2, le), (.le32 d, 4, le), (.le64 d, 8, le), (.be16 d, 2, be), (.be32 d, 4, be), (.be64 d, 8, be),
      (.bswap16 d, 2, true), (.bswap32 d, 4, true), (.bswap64 d, 8, true)] : List (Instr × Nat × Bool)),
      YieldsBytes d p.2.1 p.2.2 a s (exec p.1 s) := by
  simp only [List.forall_mem_cons]
  exact ⟨.unary hw ha (hle .h), .unary hw ha (hle .w), .unary hw ha (hle .dw), .unary hw ha (hbe .h),
    .unary hw ha (hbe .w), .unary hw ha (hbe .dw), .unary hw ha (orderedBytes_swapBytes .h a),
    .unary hw ha (orderedBytes_swapBytes .w a), .unary hw ha (orderedBytes_swapBytes .dw a), List.forall_mem_nil _⟩

end

/-- Settles O10: a little-endian host keeps the order in `leN` and reverses it in `beN`, a big-endian host the other way
round. -/
theorem byteSwapResults : Obligations.ByteSwapResults := by
  intro s d a hw ha
  refine ⟨fun he => ?little, fun he => ?big⟩
  case little =>
    refine byteSwaps_yieldBytes hw ha (fun n => ?_) (fun n => ?_) <;> rw [he]
    · exact orderedBytes_lowBytes n a
    · exact orderedBytes_swapBytes n a
  case big =>
    refine byteSwaps_yieldBytes hw ha (fun n => ?_) (fun n => ?_) <;> rw [he]
    · exact orderedBytes_swapBytes n a
    · exact orderedBytes_lowBytes n a

/-! ## Two swaps -/

/-- Bytes survive the way through their number. -/
theorem toBytesLittle_ofBytesLittle (bs : List Byte) : toBytesLittle bs.length (ofBytesLittle bs) = bs := by
  induction bs with
  | nil => rfl
  | cons b bs ih =>
    have hlow : BitVec.ofNat 8 (b.toNat + 256 * ofBytesLittle bs) = b := by
      apply BitVec.eq_of_toNat_eq
      rw [BitVec.toNat_ofNat, Nat.add_mul_mod_self_left, Nat.mod_eq_of_lt b.isLt]
    have hrest : (b.toNat + 256 * ofBytesLittle bs) / 256 = ofBytesLittle bs := by
      have := b.isLt
      omega
    simp only [List.length_cons, ofBytesLittle, toBytesLittle, hlow, hrest, ih]

theorem toBytesLittle_swapBytes (n : AccessSize) (v : Word) :
    toBytesLittle n.bytes (swapBytes n.bytes v).toNat = (toBytesLittle n.bytes v.toNat).reverse := by
  have hlen : (toBytesLittle n.bytes v.toNat).reverse.length = n.bytes := by simp
  have hword : ofBytesLittle (toBytesLittle n.bytes v.toNat).reverse < 2 ^ 64 :=
    ofBytesLittle_lt_word _ (by rw [hlen]; cases n <;> decide)
  have hback := toBytesLittle_ofBytesLittle (toBytesLittle n.bytes v.toNat).reverse
  rw [hlen] at hback
  rw [swapBytes, BitVec.toNat_ofNat, Nat.mod_eq_of_lt hword, hback]

theorem swapBytes_swapBytes (n : AccessSize) (v : Word) : swapBytes n.bytes (swapBytes n.bytes v) = lowBytes n.bytes v := by
  rw [swapBytes, toBytesLittle_swapBytes, List.reverse_reverse, ofBytesLittle_toBytesLittle, ← two_pow_mul_eight, lowBytes]

theorem lowBytes_lowBytes (n : AccessSize) (v : Word) : lowBytes n.bytes (lowBytes n.bytes v) = lowBytes n.bytes v := by
  rw [lowBytes, toNat_lowBytes, Nat.mod_mod, ← lowBytes]

theorem toLittleEndian_toLittleEndian (e : HostEndian) (n : AccessSize) (v : Word) :
    toLittleEndian e n.bytes (toLittleEndian e n.bytes v) = lowBytes n.bytes v := by
  cases e with
  | little => exact lowBytes_lowBytes n v
  | big => exact swapBytes_swapBytes n v

theorem toBigEndian_toBigEndian (e : HostEndian) (n : AccessSize) (v : Word) :
    toBigEndian e n.bytes (toBigEndian e n.bytes v) = lowBytes n.bytes v := by
  cases e with
  | little => exact swapBytes_swapBytes n v
  | big => exact lowBytes_lowBytes n v

/-- An instruction that applies a function of the host's byte order to `d` applies the same function the second time: the
parameters are fixed. -/
theorem exec_twice_of_unary {i : Instr} {f : HostEndian → Word → Word} {s : State} {d : Reg} {a v : Word}
    (hi : ∀ s, exec i s = commit (unary (f s.params.hostEndian) d s)) (hf : ∀ e, f e (f e a) = v)
    (hw : s.Writable d) (ha : s.reg d = some a) :
    ∃ t u : State, exec i s = .next t ∧ exec i t = .next u ∧ u.reg d = some v := by
  obtain ⟨t, ht, hreg, _, _, _, _, ⟨⟨hparams, _⟩, _⟩, _⟩ := Yields.unary (f := f s.params.hostEndian) hw ha rfl
  have hwt : t.Writable d := by rwa [State.Writable, hparams]
  have hv : f t.params.hostEndian (f s.params.hostEndian a) = v := by rw [hparams, hf]
  obtain ⟨u, hu, hureg⟩ := (Yields.unary hwt hreg hv).exists_reg
  exact ⟨t, u, (hi s).trans ht, (hi t).trans hu, hureg⟩

/-- Settles O11: on a host of either order each swap keeps or reverses the low bytes, and it does so both times. -/
theorem byteSwapTwice : Obligations.ByteSwapTwice := by
  intro s d a hw ha
  have le (n : AccessSize) {i : Instr}
      (hi : ∀ s, exec i s = commit (unary (toLittleEndian s.params.hostEndian n.bytes) d s)) :=
    exec_twice_of_unary hi (fun e => toLittleEndian_toLittleEndian e n a) hw ha
  have be (n : AccessSize) {i : Instr}
      (hi : ∀ s, exec i s = commit (unary (toBigEndian s.params.hostEndian n.bytes) d s)) :=
    exec_twice_of_unary hi (fun e => toBigEndian_toBigEndian e n a) hw ha
  have bswap (n : AccessSize) {i : Instr} (hi : ∀ s, exec i s = commit (unary (swapBytes n.bytes) d s)) :=
    exec_twice_of_unary hi (fun _ => swapBytes_swapBytes n a) hw ha
  simp only [List.forall_mem_cons]
  exact ⟨le .h fun _ => rfl, le .w fun _ => rfl, le .dw fun _ => rfl, be .h fun _ => rfl, be .w fun _ => rfl,
    be .dw fun _ => rfl, bswap .h fun _ => rfl, bswap .w fun _ => rfl, bswap .dw fun _ => rfl, List.forall_mem_nil _⟩

end Sys2Proof.Machine
end

section
/-! SUPPORT. The jumps (42_jump.md R157 to R209): the outcome of a branch for a valid and a bad target, the slots that start
an instruction, and what the fetch refuses. -/

namespace Sys2Proof.Machine

/-! ## Branches -/

/-- The outcome `o` is that of a jump by `delta` slots where it is taken, and of going on to the next slot where it is not
(42_jump.md R158). -/
def Branches (delta : Int) (taken : Bool) (s : State) (o : Host.Outcome State Fault Refusal) : Prop :=
  o = commit (if taken then s.jump delta else .ok (s.advance 1))

theorem jumpResult_withPc (s : State) (p : Nat) : JumpResult p s { s with pc := p } :=
  ⟨rfl, fun _ _ => rfl, rfl, fun _ => rfl, ⟨⟨rfl, rfl, rfl, rfl⟩, rfl⟩, ⟨rfl, rfl⟩, ⟨⟨rfl, rfl⟩, rfl, rfl⟩⟩

/-- A jump fails exactly where its target is not valid, with that target (42_jump.md R159). -/
theorem State.jump_eq_error (s : State) (delta : Int) (f : Fault) :
    s.jump delta = .error f ↔ ¬ s.ValidTarget (s.jumpTarget delta) ∧ f = .badJumpTarget (s.jumpTarget delta) := by
  rw [State.ValidTarget, ← s.checkTarget_eq_error]
  unfold State.jump
  cases s.checkTarget (s.jumpTarget delta) <;> simp

namespace Branches

variable {delta : Int} {taken : Bool} {s : State} {o : Host.Outcome State Fault Refusal}

theorem next_target (h : Branches delta taken s o) (ht : taken = true) (hv : s.ValidTarget ((s.pc : Int) + 1 + delta)) :
    ∃ t, o = .next t ∧ JumpResult ((s.pc : Int) + 1 + delta).toNat s t := by
  obtain ⟨hnonneg, hstart⟩ := hv
  rw [Branches, if_pos ht, (s.jump_eq_ok _ delta).2 ⟨hnonneg, hstart, rfl⟩] at h
  exact ⟨_, h, jumpResult_withPc s _⟩

theorem next_slot (h : Branches delta taken s o) (ht : taken = false) :
    ∃ t, o = .next t ∧ JumpResult (s.pc + 1) s t := by
  rw [Branches, ht] at h
  exact ⟨_, h, jumpResult_withPc s _⟩

theorem fault_of_bad (h : Branches delta taken s o) (ht : taken = true)
    (hv : ¬ s.ValidTarget ((s.pc : Int) + 1 + delta)) : o = .fault (.badJumpTarget ((s.pc : Int) + 1 + delta)) := by
  rw [Branches, if_pos ht, (s.jump_eq_error delta _).2 ⟨hv, rfl⟩] at h
  exact h

/-! ### The operand forms -/

theorem jump : Branches delta true s (commit (s.jump delta)) := rfl

variable {d r : Reg} {imm : Word32} {off : BitVec 16} {a b : Word}

theorem jump64Imm {c : Word → Word → Bool} (ha : s.reg d = some a) (hc : c a (imm.signExtend 64) = taken) :
    Branches off.toInt taken s (commit (jump64Imm c d imm off s)) := by
  rw [Machine.jump64Imm, (s.readReg_eq_ok d a).2 ha, ← hc]
  rfl

theorem jump64Reg {c : Word → Word → Bool} (ha : s.reg d = some a) (hb : s.reg r = some b) (hc : c a b = taken) :
    Branches off.toInt taken s (commit (jump64Reg c d r off s)) := by
  rw [Machine.jump64Reg, (s.readReg_eq_ok d a).2 ha, (s.readReg_eq_ok r b).2 hb, ← hc]
  rfl

theorem jump32Imm {c : Word32 → Word32 → Bool} (ha : s.reg d = some a) (hc : c (a.setWidth 32) imm = taken) :
    Branches off.toInt taken s (commit (jump32Imm c d imm off s)) := by
  rw [Machine.jump32Imm, (s.readReg_eq_ok d a).2 ha, ← hc]
  rfl

theorem jump32Reg {c : Word32 → Word32 → Bool} (ha : s.reg d = some a) (hb : s.reg r = some b)
    (hc : c (a.setWidth 32) (b.setWidth 32) = taken) :
    Branches off.toInt taken s (commit (jump32Reg c d r off s)) := by
  rw [Machine.jump32Reg, (s.readReg_eq_ok d a).2 ha, (s.readReg_eq_ok r b).2 hb, ← hc]
  rfl

end Branches

/-! ### The conditions that the model reads off the unsigned numbers -/

theorem condEq_eq {n : Nat} (a b : BitVec n) : condEq a b = decide (a = b) :=
  decide_eq_decide.2 BitVec.toNat_inj

theorem condNe_eq {n : Nat} (a b : BitVec n) : condNe a b = decide (a ≠ b) :=
  decide_eq_decide.2 (not_congr BitVec.toNat_inj)

theorem condSet_eq {n : Nat} (a b : BitVec n) : condSet a b = decide (a &&& b ≠ 0) :=
  decide_eq_decide.2 (not_congr (BitVec.toNat_inj (y := 0)))

/-! ### The statements -/

/-- Settles O12: each row is a branch by `off` under the condition of its operand form. -/
theorem conditionalJumpResults : Obligations.ConditionalJumpResults := by
  intro s d r imm off a b ha hb p hp
  have hrow : Branches off.toInt p.2 s (exec p.1 s) := by
    revert p
    simp only [List.forall_mem_cons]
    exact ⟨.jump64Imm ha (condEq_eq ..), .jump64Reg ha hb (condEq_eq ..), .jump64Imm ha rfl, .jump64Reg ha hb rfl,
      .jump64Imm ha rfl, .jump64Reg ha hb rfl, .jump64Imm ha (condSet_eq ..), .jump64Reg ha hb (condSet_eq ..),
      .jump64Imm ha (condNe_eq ..), .jump64Reg ha hb (condNe_eq ..), .jump64Imm ha rfl, .jump64Reg ha hb rfl,
      .jump64Imm ha rfl, .jump64Reg ha hb rfl, .jump64Imm ha rfl, .jump64Reg ha hb rfl, .jump64Imm ha rfl,
      .jump64Reg ha hb rfl, .jump64Imm ha rfl, .jump64Reg ha hb rfl, .jump64Imm ha rfl, .jump64Reg ha hb rfl,
      .jump32Imm ha (condEq_eq ..), .jump32Reg ha hb (condEq_eq ..), .jump32Imm ha rfl, .jump32Reg ha hb rfl,
      .jump32Imm ha rfl, .jump32Reg ha hb rfl, .jump32Imm ha (condSet_eq ..), .jump32Reg ha hb (condSet_eq ..),
      .jump32Imm ha (condNe_eq ..), .jump32Reg ha hb (condNe_eq ..), .jump32Imm ha rfl, .jump32Reg ha hb rfl,
      .jump32Imm ha rfl, .jump32Reg ha hb rfl, .jump32Imm ha rfl, .jump32Reg ha hb rfl, .jump32Imm ha rfl,
      .jump32Reg ha hb rfl, .jump32Imm ha rfl, .jump32Reg ha hb rfl, .jump32Imm ha rfl, .jump32Reg ha hb rfl,
      List.forall_mem_nil _⟩
  exact ⟨hrow.next_target, hrow.next_slot⟩

/-- Settles O13: both are branches that are always taken. -/
theorem unconditionalJumpResults : Obligations.UnconditionalJumpResults := by
  intro s off imm p hp
  have hrow : Branches p.2 true s (exec p.1 s) := by
    revert p
    simp only [List.forall_mem_cons]
    exact ⟨.jump, .jump, List.forall_mem_nil _⟩
  exact hrow.next_target rfl

/-- Settles O14: the rows of O12 and O13, where the check of the target fails. -/
theorem badJumpTargets : Obligations.BadJumpTargets := by
  intro s d r imm off a b ha hb p hp
  have hrow : Branches p.2.1 p.2.2 s (exec p.1 s) := by
    revert p
    simp only [List.forall_mem_cons]
    exact ⟨.jump, .jump, .jump64Imm ha (condEq_eq ..), .jump64Reg ha hb (condEq_eq ..), .jump64Imm ha rfl,
      .jump64Reg ha hb rfl, .jump64Imm ha rfl, .jump64Reg ha hb rfl, .jump64Imm ha (condSet_eq ..),
      .jump64Reg ha hb (condSet_eq ..), .jump64Imm ha (condNe_eq ..), .jump64Reg ha hb (condNe_eq ..),
      .jump64Imm ha rfl, .jump64Reg ha hb rfl, .jump64Imm ha rfl, .jump64Reg ha hb rfl, .jump64Imm ha rfl,
      .jump64Reg ha hb rfl, .jump64Imm ha rfl, .jump64Reg ha hb rfl, .jump64Imm ha rfl, .jump64Reg ha hb rfl,
      .jump64Imm ha rfl, .jump64Reg ha hb rfl, .jump32Imm ha (condEq_eq ..), .jump32Reg ha hb (condEq_eq ..),
      .jump32Imm ha rfl, .jump32Reg ha hb rfl, .jump32Imm ha rfl, .jump32Reg ha hb rfl, .jump32Imm ha (condSet_eq ..),
      .jump32Reg ha hb (condSet_eq ..), .jump32Imm ha (condNe_eq ..), .jump32Reg ha hb (condNe_eq ..),
      .jump32Imm ha rfl, .jump32Reg ha hb rfl, .jump32Imm ha rfl, .jump32Reg ha hb rfl, .jump32Imm ha rfl,
      .jump32Reg ha hb rfl, .jump32Imm ha rfl, .jump32Reg ha hb rfl, .jump32Imm ha rfl, .jump32Reg ha hb rfl,
      .jump32Imm ha rfl, .jump32Reg ha hb rfl, List.forall_mem_nil _⟩
  exact hrow.fault_of_bad

/-! ## The slots that start an instruction (42_jump.md R159) -/

/-- The head of a program is a first slot unless it is the second one of a wide instruction. -/
theorem startsAt_zero_iff (p : List Slot) (second : Bool) :
    startsAt p second 0 = true ↔ second = false ∧ 0 < p.length := by
  cases p <;> simp [startsAt]

theorem startsAt_of_length_le (p : List Slot) (second : Bool) (k : Nat) (h : p.length ≤ k) :
    startsAt p second k = false := by
  induction p generalizing second k with
  | nil => rfl
  | cons x xs ih =>
    obtain ⟨k, rfl⟩ := Nat.exists_eq_add_of_le' (Nat.le_trans (Nat.le_add_left 1 _) h)
    exact ih _ k (Nat.le_of_succ_le_succ h)

/-- Behind the second slot of a wide instruction stands a first slot. -/
theorem startsAt_second_succ (p : List Slot) (j : Nat) : startsAt p true (j + 1) = startsAt p.tail false j := by
  cases p <;> rfl

/-- Behind the first slot of an instruction, `x`, the decoding goes on with what `x` says of the slot after it. -/
theorem State.isStart_add_succ {s : State} {k : Nat} {x : Slot} (hs : s.isStart k = true) (hx : s.program[k]? = some x)
    (j : Nat) : s.isStart (k + 1 + j) = startsAt (s.program.drop (k + 1)) (x.b0 == 0x18) j := by
  obtain ⟨hl, rfl⟩ := List.getElem?_eq_some_iff.1 hx
  rw [Nat.add_assoc, Nat.add_comm 1, State.isStart, startsAt_add _ _ _ _ hs, List.drop_eq_getElem_cons hl]
  rfl

/-- Settles O15: decoding goes on behind a first slot, past one slot or, for opcode 0x18, past two. -/
theorem instructionStarts : Obligations.InstructionStarts := by
  intro s
  refine ⟨startsAt_zero s.program, startsAt_of_length_le s.program false,
    fun k x hs hx => ⟨fun hb => ?basic, fun hb => ?wide⟩⟩
  case basic =>
    rw [← Nat.add_zero (k + 1), State.isStart_add_succ hs hx, startsAt_zero_iff, List.length_drop]
    simp only [beq_eq_false_iff_ne.2 hb, true_and]
    omega
  case wide =>
    have hnext (j : Nat) : s.isStart (k + 1 + j) = startsAt (s.program.drop (k + 1)) true j := by
      rw [State.isStart_add_succ hs hx, beq_iff_eq.2 hb]
    constructor
    · rw [← Nat.add_zero (k + 1), hnext, Bool.eq_false_iff, ne_eq, startsAt_zero_iff]
      exact fun h => Bool.noConfusion h.1
    · rw [hnext 1, startsAt_second_succ, startsAt_zero_iff, List.length_tail, List.length_drop]
      simp only [true_and]
      omega

/-! ## What the fetch refuses (30_encoding.md R61; 60_exceptions.md R296) -/

section

variable {s : State}

theorem State.fetch_of_not_isStart (h : s.isStart s.pc = false) : s.fetch = .error (.badJumpTarget s.pc) := by
  rw [State.fetch, if_neg (by simp [h])]

theorem State.fetch_of_decode_error {x : Slot} {e : DecodeError} (hs : s.isStart s.pc = true)
    (hx : s.program[s.pc]? = some x)
    (hd : decode s.params.hostEndian s.params.strictReserved x s.program[s.pc + 1]? = .error e) :
    s.fetch = .error (.illegalInstruction s.pc) := by
  simp only [State.fetch, hs, hx, hd, if_true]

theorem State.fetch_of_not_wellFormed {x : Slot} {i : Instr} (hs : s.isStart s.pc = true)
    (hx : s.program[s.pc]? = some x)
    (hd : decode s.params.hostEndian s.params.strictReserved x s.program[s.pc + 1]? = .ok i)
    (hw : i.wellFormed s.params = false) : s.fetch = .error (.illegalInstruction s.pc) := by
  simp only [State.fetch, hs, hx, hd, hw, if_true, Bool.false_eq_true, if_false]

theorem step_of_fetch_error {f : Fault} (hr : s.result = none) (hf : s.fetch = .error f) : step s = .fault f := by
  rw [step, hr, hf]

end

/-- Settles O43: the end of the program starts no instruction, and the two other refusals are those of the fetch. -/
theorem fetchFaults : Obligations.FetchFaults := by
  intro s hr
  refine ⟨fun hpc => ?_, fun x hs hx => ⟨fun e hd => ?_, fun i hd hw => ?_⟩⟩
  · rw [← hpc]
    exact step_of_fetch_error hr (State.fetch_of_not_isStart (startsAt_of_length_le _ _ _ hpc.ge))
  · exact step_of_fetch_error hr (State.fetch_of_decode_error hs hx hd)
  · exact step_of_fetch_error hr (State.fetch_of_not_wellFormed hs hx hd hw)

end Sys2Proof.Machine
end

section
/-! SUPPORT. Program-local calls and `exit` (42_jump.md R213, R214, R216): the state in which a function starts and the one to
which it returns. -/

namespace Sys2Proof.Machine

/-! ## What a call and a return leave unchanged -/

/-- From `s` to `t` data memory, the platform and the three oracle inputs are as before. -/
def KeepsSurroundings (s t : State) : Prop :=
  KeepsMemory s t ∧ KeepsPlatform s t ∧ KeepsOracle s t ∧ KeepsHelpers s t

theorem keepsSurroundings_enterFunction (s : State) (k : Nat) : KeepsSurroundings s (s.enterFunction k) := by
  simp [KeepsSurroundings, KeepsMemory, KeepsPlatform, KeepsParameters, KeepsOracle, KeepsHelpers, KeepsAnswers]

theorem keepsSurroundings_returnTo (s : State) (f : Frame) (rest : List Frame) :
    KeepsSurroundings s (s.returnTo f rest) := by
  simp [KeepsSurroundings, KeepsMemory, KeepsPlatform, KeepsParameters, KeepsOracle, KeepsHelpers, KeepsAnswers]

/-! ## The registers of a callee -/

/-- The callee keeps the arguments and no other register but a lowered r10 (42_jump.md R214). -/
theorem keepsRegsBut_enterFunction (s : State) (k : Nat) : KeepsRegsBut [0, 6, 7, 8, 9, 10] s (s.enterFunction k) := by
  intro r hr
  obtain ⟨h10, h15⟩ : r ≠ 10 ∧ 1 ≤ r.val ∧ r.val ≤ 5 := by revert r; decide
  rw [State.reg_enterFunction, if_neg h10, if_pos h15]

theorem State.reg_enterFunction_cleared (s : State) (k : Nat) :
    ∀ r ∈ ([0, 6, 7, 8, 9] : List Reg), (s.enterFunction k).reg r = none := by
  simp [State.reg_enterFunction]

/-! ## The calls -/

/-- A call fails where the call stack is full, and otherwise where its target is not valid (42_jump.md R214;
60_exceptions.md R296). -/
theorem State.callLocal_eq_error (s : State) (delta : Int) (f : Fault) :
    s.callLocal delta = .error f ↔ (s.params.maxCallDepth ≤ s.frames.length ∧ f = .callDepthExceeded) ∨
      (s.frames.length < s.params.maxCallDepth ∧ ¬ s.ValidTarget (s.jumpTarget delta) ∧
        f = .badJumpTarget (s.jumpTarget delta)) := by
  rw [State.ValidTarget, ← s.checkTarget_eq_error, ← Nat.not_le, State.callLocal]
  by_cases hd : s.params.maxCallDepth ≤ s.frames.length
  · simp [hd, eq_comm]
  · cases s.checkTarget (s.jumpTarget delta) <;> simp [hd]

/-- Settles O16: with a free frame and a valid target the callee starts. -/
theorem localCallResult : Obligations.LocalCallResult := by
  intro s imm hd ⟨hnonneg, hstart⟩
  refine ⟨s.enterFunction (s.jumpTarget imm.toInt).toNat,
    (commit_eq_next _ _).2 ((s.callLocal_eq_ok _ _).2 ⟨hd, hnonneg, hstart, rfl⟩), s.enterFunction_pc _,
    s.enterFunction_frames _, ?_, s.reg_enterFunction_cleared _, keepsRegsBut_enterFunction s _,
    keepsSurroundings_enterFunction s _⟩
  rw [State.reg_enterFunction, if_pos rfl]

/-- Settles O17: the depth is checked before the target. -/
theorem localCallFaults : Obligations.LocalCallFaults := by
  intro s imm
  refine ⟨fun hd => ?_, fun hd ht => ?_⟩
  · exact (commit_eq_fault _ _).2 ((s.callLocal_eq_error _ _).2 (.inl ⟨hd, rfl⟩))
  · exact (commit_eq_fault _ _).2 ((s.callLocal_eq_error _ _).2 (.inr ⟨hd, ht, rfl⟩))

/-! ## The returns -/

/-- Settles O19: the innermost frame gives r6 to r10 and the slot to go on with. -/
theorem exitReturnsToTheCaller : Obligations.ExitReturnsToTheCaller := by
  intro s v f rest hf hv
  have hx : exec .exit s = .next (s.returnTo f rest) :=
    (commit_eq_next _ _).2 ((s.leaveFunction_eq_ok _).2 ⟨v, hv, .inr ⟨f, rest, hf, rfl⟩⟩)
  refine ⟨s.returnTo f rest, hx, s.returnTo_pc f rest, s.returnTo_frames f rest, ?_, ?_, ?_, ?_, ?_, ?_, ?_,
    keepsSurroundings_returnTo s f rest⟩
  all_goals simp [State.reg_returnTo, hv]

/-- Settles O20: the frame that the call pushes is the one from which the return restores. -/
theorem callAndReturn : Obligations.CallAndReturn := by
  intro s u imm v hd ht hv
  obtain ⟨t, hcall, _, hframes, _⟩ := localCallResult s imm hd ht
  refine ⟨t, hcall, fun hu => ?_⟩
  obtain ⟨w, hexit, hpc, hrest, h0, _, h6, h7, h8, h9, h10, _⟩ := exitReturnsToTheCaller u v _ _ (hu.trans hframes) hv
  refine ⟨w, hexit, hpc, hrest, h0, ?_⟩
  simp only [List.forall_mem_cons]
  exact ⟨h6, h7, h8, h9, h10, List.forall_mem_nil _⟩

end Sys2Proof.Machine
end

section
/-! SUPPORT. Helper calls (42_jump.md R211, R212, R215): the state after a return, the answers of undefined helpers, and what a
helper may see. -/

namespace Sys2Proof.Machine

/-! ## What a helper leaves behind -/

section

variable {s t : State} {v : Word} {ws : List (Word × Byte)} {k : HelperKind} {id : Word32}

/-- A helper returns from the state in which the inputs of its call have been drawn (log 10, log 33). -/
theorem helperReturns_helperReturn (h : t = s.drawSnapshot ∨ t = s.drawSnapshot.drawHelper k id) :
    HelperReturns v s (t.helperReturn v ws) := by
  have hreg (q : Reg) : t.reg q = s.reg q := by rcases h with rfl | rfl <;> rfl
  refine ⟨?result, ?args, keepsRegsBut_helperReturn hreg v ws, ?frame⟩
  case result => rw [State.reg_helperReturn, if_pos rfl]
  case args => simp [State.reg_helperReturn]
  case frame => rcases h with rfl | rfl <;> simp [KeepsPlatform, KeepsParameters, KeepsOracle]

theorem writesBytes_helperReturn (h : t.mem = s.mem) : WritesBytes ws s (t.helperReturn v ws) := by
  refine ⟨fun a ha => ?_, fun before after w hw hlast => ?_⟩
  · rw [State.helperReturn_readByte, Memory.byte, get_writeCells_of_ne _ _ _ ha, h]
    rfl
  · rw [State.helperReturn_readByte, Memory.byte, hw, get_writeCells_last _ _ _ _ hlast]
    rfl

theorem keepsAnswers_helperReturn : KeepsAnswers s (s.drawSnapshot.helperReturn v ws) := by
  simp [KeepsAnswers]

end

/-! ## The outcome of a call -/

section

variable {s : State} {k : HelperKind} {id : Word32} {h : HelperBody}

theorem State.callHelper_of_none (hk : s.helper k id = none) :
    s.callHelper k id = .error (.unknownHelper (helperSrcReg k) id) :=
  (s.callHelper_eq_error k id _).2 (.inl ⟨hk, rfl⟩)

theorem State.callHelper_of_error {f : Fault} (hk : s.helper k id = some h) (hr : h.run s.helperInput = .error f) :
    s.callHelper k id = .error f :=
  (s.callHelper_eq_error k id _).2 (.inr ⟨h, hk, .inl hr⟩)

theorem State.callHelper_of_done {v : Word} {ws : List (Word × Byte)} (hk : s.helper k id = some h)
    (hr : h.run s.helperInput = .ok (.done v ws)) : s.callHelper k id = .ok (s.drawSnapshot.helperReturn v ws) :=
  (s.callHelper_eq_ok _ k id).2 ⟨h, hk, .inl ⟨v, ws, hr, rfl⟩⟩

theorem State.callHelper_of_undefined (hk : s.helper k id = some h) (hr : h.run s.helperInput = .ok .undefined) :
    s.callHelper k id = s.drawSnapshot.callUndefined k id := by
  rw [State.callHelper, hk]
  simp only [hr]

/-- A helper that ends with a result returns it and writes its bytes. -/
theorem State.callHelper_done_results {v : Word} {ws : List (Word × Byte)} (hk : s.helper k id = some h)
    (hr : h.run s.helperInput = .ok (.done v ws)) :
    ∃ t, commit (s.callHelper k id) = .next t ∧ HelperReturns v s t ∧ WritesBytes ws s t ∧ KeepsAnswers s t :=
  ⟨_, (commit_eq_next _ _).2 (State.callHelper_of_done hk hr), helperReturns_helperReturn (k := k) (id := id) (.inl rfl),
    writesBytes_helperReturn s.drawSnapshot_mem, keepsAnswers_helperReturn⟩

end

/-- The rows of the statements are calls of a helper by the kind of its identifier (42_jump.md R212, R215). -/
theorem helperCall_cases {s : State} {imm : Word32} {p : Instr × List (Word32 × HelperBody)}
    (hp : p ∈ [(.callHelper imm, s.helpers), (.callBtf imm, s.btfHelpers)]) :
    ∃ k, exec p.1 s = commit (s.callHelper k imm) ∧ s.helper k imm = lookup p.2 imm := by
  revert p
  simp only [List.forall_mem_cons]
  exact ⟨⟨.static, rfl, rfl⟩, ⟨.btf, rfl, rfl⟩, List.forall_mem_nil _⟩

/-- As `helperCall_cases`, for the rows that name the kind. -/
theorem kindedHelperCall_cases {s : State} {imm : Word32} {p : Instr × HelperKind × List (Word32 × HelperBody)}
    (hp : p ∈ [(.callHelper imm, .static, s.helpers), (.callBtf imm, .btf, s.btfHelpers)]) :
    exec p.1 s = commit (s.callHelper p.2.1 imm) ∧ s.helper p.2.1 imm = lookup p.2.2 imm := by
  revert p
  simp only [List.forall_mem_cons]
  exact ⟨⟨rfl, rfl⟩, ⟨rfl, rfl⟩, List.forall_mem_nil _⟩

theorem HelperBody.run_ret {x : HelperInput} {e : HelperExpr} {ws : List (HelperExpr × HelperExpr)} {v : Word}
    {bytes : List (Word × Byte)} (he : e.eval x = .ok v) (hw : evalWrites x ws = .ok bytes) :
    (HelperBody.ret e ws).run x = .ok (.done v bytes) := by
  rw [HelperBody.run, he, hw]
  rfl

/-- Settles O21: a definition that ends with a result gives the bytes of its expressions. -/
theorem helperCallResults : Obligations.HelperCallResults := by
  intro s imm p hp h hh
  obtain ⟨k, hx, hk⟩ := helperCall_cases hp
  rw [hx]
  refine ⟨fun v ws hr => State.callHelper_done_results (hk.trans hh) hr, fun e ws v bytes he hv hw => ?_⟩
  exact State.callHelper_done_results (hk.trans hh) (he ▸ HelperBody.run_ret hv hw)

/-! ## Undefined helpers: the answers -/

/-- The entries of a list for one key. -/
theorem lookup_eq_head?_filter {α β : Type} [DecidableEq α] (l : List (α × β)) (a : α) :
    lookup l a = ((l.filter fun q => decide (q.1 = a)).head?).map Prod.snd := by
  induction l with
  | nil => rfl
  | cons x l ih =>
    by_cases hx : x.1 = a
    · simp [lookup, hx]
    · simp [lookup, hx, Ne.symm hx, ih]

/-- What is erased is the first of the elements that satisfy the condition. -/
theorem filter_eraseP_same {α : Type} (p : α → Bool) (l : List α) : (l.eraseP p).filter p = (l.filter p).tail := by
  induction l with
  | nil => rfl
  | cons x l ih => cases hx : p x <;> simp [hx, ih]

/-- No other element is erased. -/
theorem filter_eraseP_of_disjoint {α : Type} (p q : α → Bool) (l : List α) (h : ∀ x, p x = true → q x = false) :
    (l.eraseP p).filter q = l.filter q := by
  induction l with
  | nil => rfl
  | cons x l ih =>
    cases hx : p x
    · simp [hx, List.filter_cons, ih]
    · simp [hx, h x hx]

section

variable {s : State} {k : HelperKind} {id : Word32}

/-- The answer is the first one supplied for the kind and identifier. -/
theorem State.helperNext_of_supplied {q : (HelperKind × Word32) × HelperAnswer}
    (h : q ∈ (s.helperAnswers.filter fun q => decide (q.1 = (k, id))).head?) : s.helperNext k id = q.2 := by
  rw [State.helperNext, lookup_eq_head?_filter, Option.mem_def.1 h]
  rfl

/-- One of the answers for the kind and identifier is used up. -/
theorem State.helperAnswers_drawHelper_same :
    ((s.drawHelper k id).helperAnswers.filter fun q => decide (q.1 = (k, id))) =
      (s.helperAnswers.filter fun q => decide (q.1 = (k, id))).tail :=
  filter_eraseP_same _ _

/-- The answers for any other helper are kept. -/
theorem State.helperAnswers_drawHelper_other {key : HelperKind × Word32} (h : key ≠ (k, id)) :
    ((s.drawHelper k id).helperAnswers.filter fun q => decide (q.1 = key)) =
      s.helperAnswers.filter fun q => decide (q.1 = key) := by
  refine filter_eraseP_of_disjoint _ _ _ fun q hq => ?_
  rw [decide_eq_false_iff_not, of_decide_eq_true hq]
  exact Ne.symm h

/-! ## Undefined helpers: the outcome -/

/-- The register that is named is unwritten and used. -/
theorem State.unwrittenArg_eq_some {is : List (Fin 5)} {r : Reg} (h : s.unwrittenArg is = some r) :
    ∃ j ∈ is, s.reg (argReg j) = none ∧ r = argReg j := by
  induction is with
  | nil => cases h
  | cons i is ih =>
    rw [State.unwrittenArg] at h
    split at h
    · next hn => exact ⟨i, List.mem_cons_self, Option.isNone_iff_eq_none.1 hn, (Option.some.inj h).symm⟩
    · obtain ⟨j, hj, hrest⟩ := ih h
      exact ⟨j, List.mem_cons_of_mem i hj, hrest⟩

theorem State.unwrittenArg_of_written {is : List (Fin 5)} (h : ∀ i ∈ is, s.reg (argReg i) ≠ none) :
    s.unwrittenArg is = none :=
  (s.unwrittenArg_eq_none is).2 fun i hi => Option.isSome_iff_ne_none.2 (h i hi)

theorem State.callUndefined_of_unwritten (h : ∃ i ∈ (s.helperNext k id).uses, s.reg (argReg i) = none) :
    ∃ j ∈ (s.helperNext k id).uses, s.reg (argReg j) = none ∧
      s.callUndefined k id = .error (.uninitRegister (argReg j)) := by
  cases hu : s.unwrittenArg (s.helperNext k id).uses with
  | none =>
    obtain ⟨i, hi, hn⟩ := h
    have := (s.unwrittenArg_eq_none _).1 hu i hi
    simp [hn] at this
  | some r =>
    obtain ⟨j, hj, hjn, rfl⟩ := State.unwrittenArg_eq_some hu
    exact ⟨j, hj, hjn, by simp only [State.callUndefined, hu]⟩

theorem State.callUndefined_of_fails {f : Fault} (h : ∀ i ∈ (s.helperNext k id).uses, s.reg (argReg i) ≠ none)
    (hf : (s.helperNext k id).fails = some f) : s.callUndefined k id = .error f := by
  simp only [State.callUndefined, State.unwrittenArg_of_written h, hf]

theorem State.callUndefined_of_answer (h : ∀ i ∈ (s.helperNext k id).uses, s.reg (argReg i) ≠ none)
    (hf : (s.helperNext k id).fails = none) : s.callUndefined k id =
      .ok ((s.drawHelper k id).helperReturn (s.helperNext k id).result (s.helperNext k id).writes) :=
  (s.callUndefined_eq_ok _ k id).2 ⟨State.unwrittenArg_of_written h, hf, rfl⟩

end

/-- Settles O25: the helper returns what its answer says, and the answer is drawn. -/
theorem undefinedHelperResults : Obligations.UndefinedHelperResults := by
  intro s imm p hp h hh hr huses hfails
  obtain ⟨hx, hk⟩ := kindedHelperCall_cases hp
  have hnext : exec p.1 s = .next ((s.drawSnapshot.drawHelper p.2.1 imm).helperReturn (s.helperNext p.2.1 imm).result
      (s.helperNext p.2.1 imm).writes) := by
    rw [hx, State.callHelper_of_undefined (hk.trans hh) hr]
    exact (commit_eq_next _ _).2 (State.callUndefined_of_answer (s := s.drawSnapshot) huses hfails)
  refine ⟨_, hnext, helperReturns_helperReturn (.inr rfl), writesBytes_helperReturn rfl, State.helperReturn_helperCount ..,
    fun q hq => State.helperNext_of_supplied hq, ?same, fun key hkey => ?other⟩
  case same =>
    rw [State.helperReturn_helperAnswers]
    exact State.helperAnswers_drawHelper_same (s := s)
  case other =>
    rw [State.helperReturn_helperAnswers]
    exact State.helperAnswers_drawHelper_other (s := s) hkey

/-- Settles O26: a call fails for its identifier, for its definition, or for its answer. -/
theorem helperCallFaults : Obligations.HelperCallFaults := by
  intro s imm
  refine ⟨fun hn => ?_, fun hn => ?_, fun p hp h hh => ?known⟩
  · exact (commit_eq_fault _ _).2 (State.callHelper_of_none (k := .static) hn)
  · exact (commit_eq_fault _ _).2 (State.callHelper_of_none (k := .btf) hn)
  case known =>
    obtain ⟨hx, hk⟩ := kindedHelperCall_cases hp
    rw [hx]
    refine ⟨fun f hf => (commit_eq_fault _ _).2 (State.callHelper_of_error (hk.trans hh) hf), fun hr => ?_⟩
    rw [State.callHelper_of_undefined (hk.trans hh) hr]
    refine ⟨fun i hi hn => ?_, fun hw f hf => ?_⟩
    · obtain ⟨j, hj, hjn, hf⟩ := State.callUndefined_of_unwritten (s := s.drawSnapshot) ⟨i, hi, hn⟩
      exact ⟨j, hj, hjn, (commit_eq_fault _ _).2 hf⟩
    · exact (commit_eq_fault _ _).2 (State.callUndefined_of_fails (s := s.drawSnapshot) hw hf)

/-! ## What a helper may see -/

/-- Memories with the same bytes have the same bytes after the same writes. -/
theorem byte_writeCells_congr (ws : List (Word × Byte)) {m m' : List Host.Cell}
    (h : ∀ a, Memory.byte m a = Memory.byte m' a) (a : Nat) :
    Memory.byte (writeCells m ws) a = Memory.byte (writeCells m' ws) a := by
  induction ws generalizing m m' with
  | nil => exact h a
  | cons w ws ih =>
    refine ih fun c => ?_
    rw [Memory.byte, Memory.byte, Memory.get_set, Memory.get_set]
    split
    · rfl
    · exact h c

/-- The input of a helper is r1 to r5, the data memory that it is given, and the host's byte order (42_jump.md R211). -/
theorem State.helperInput_congr {s s' : State} (hregs : ∀ r ∈ ([1, 2, 3, 4, 5] : List Reg), s'.reg r = s.reg r)
    (hbyte : ∀ a, s'.helperByte a = s.helperByte a) (he : s'.params.hostEndian = s.params.hostEndian) :
    s'.helperInput = s.helperInput := by
  simp only [List.forall_mem_cons] at hregs
  obtain ⟨h1, h2, h3, h4, h5, _⟩ := hregs
  rw [State.helperInput, State.helperInput, State.helperArgs, State.helperArgs, h1, h2, h3, h4, h5, he, funext hbyte]

/-- Two outcomes are the same fault, or next states with the same r0 and the same bytes of data memory. -/
def SameHelperEffect (o o' : Host.Outcome State Fault Refusal) : Prop :=
  (∃ f, o = .fault f ∧ o' = .fault f) ∨
    ∃ t t', o = .next t ∧ o' = .next t' ∧ t.reg 0 = t'.reg 0 ∧ ∀ a, t.readByte a = t'.readByte a

theorem callHelper_sameEffect {s s' : State} {k : HelperKind} {id : Word32} (hk : s'.helper k id = s.helper k id)
    (hi : s'.helperInput = s.helperInput) (hbyte : ∀ a, s'.readByte a = s.readByte a)
    (hdef : ∀ h, s.helper k id = some h → h.run s.helperInput ≠ .ok .undefined) :
    SameHelperEffect (commit (s.callHelper k id)) (commit (s'.callHelper k id)) := by
  cases hh : s.helper k id with
  | none =>
    exact .inl ⟨_, (commit_eq_fault _ _).2 (State.callHelper_of_none hh),
      (commit_eq_fault _ _).2 (State.callHelper_of_none (hk.trans hh))⟩
  | some h =>
    rcases hr : h.run s.helperInput with f | ⟨v, ws⟩ | _
    · exact .inl ⟨f, (commit_eq_fault _ _).2 (State.callHelper_of_error hh hr),
        (commit_eq_fault _ _).2 (State.callHelper_of_error (hk.trans hh) (hi ▸ hr))⟩
    · refine .inr ⟨_, _, (commit_eq_next _ _).2 (State.callHelper_of_done hh hr),
        (commit_eq_next _ _).2 (State.callHelper_of_done (hk.trans hh) (hi ▸ hr)), ?_, fun a => ?_⟩
      · rw [State.reg_helperReturn, State.reg_helperReturn, if_pos rfl, if_pos rfl]
      · rw [State.helperReturn_readByte, State.helperReturn_readByte]
        exact byte_writeCells_congr ws (fun c => (hbyte c).symm) a
    · exact absurd hr (hdef h hh)

/-- Settles O24: the two calls run the same definition on the same input. -/
theorem helperSeesOnlyArgumentsAndMemory : Obligations.HelperSeesOnlyArgumentsAndMemory := by
  intro s s' imm hhelpers hbtf hregs hread hbyte he p hp hdef
  have hi := State.helperInput_congr hregs hbyte he
  have hx : ∃ k, exec p.1 s = commit (s.callHelper k imm) ∧ exec p.1 s' = commit (s'.callHelper k imm) ∧
      s.helper k imm = p.2 ∧ s'.helper k imm = s.helper k imm := by
    clear hdef
    revert p
    simp only [List.forall_mem_cons]
    exact ⟨⟨.static, rfl, rfl, rfl, congrArg (lookup · imm) hhelpers⟩,
      ⟨.btf, rfl, rfl, rfl, congrArg (lookup · imm) hbtf⟩, List.forall_mem_nil _⟩
  obtain ⟨k, hs, hs', hp2, hk⟩ := hx
  rw [hs, hs']
  exact callHelper_sameEffect hk hi hread (hp2 ▸ hdef)

end Sys2Proof.Machine
end

section
/-! SUPPORT. The arguments that a helper definition uses (42_jump.md R211; 60_exceptions.md R290): where one is unwritten the
definition fails, and where all are written it ends as the end that it reaches says. -/

namespace Sys2Proof.Machine

/-! ## Unwritten arguments -/

/-- Where one of the arguments `is` is unwritten, the computation fails for an unwritten one among them. -/
def UsesArgs {α : Type} (x : HelperInput) (is : List (Fin 5)) (r : Except Fault α) : Prop :=
  (∃ i ∈ is, x.args.get i = none) → ∃ j ∈ is, x.args.get j = none ∧ r = .error (.uninitRegister (argReg j))

namespace UsesArgs

variable {α β : Type} {x : HelperInput} {is : List (Fin 5)}

theorem nil {r : Except Fault α} : UsesArgs x [] r := by
  rintro ⟨_, hi, _⟩
  cases hi

theorem bind {r : Except Fault α} {g : α → Except Fault β} (h : UsesArgs x is r) : UsesArgs x is (r >>= g) := by
  intro hi
  obtain ⟨j, hj, hn, rfl⟩ := h hi
  exact ⟨j, hj, hn, rfl⟩

/-- An expression is evaluated before the rest of the computation. -/
theorem eval {e : HelperExpr} {g : Word → Except Fault β} (h : ∀ v, e.eval x = .ok v → UsesArgs x is (g v)) :
    UsesArgs x (e.args ++ is) (e.eval x >>= g) := by
  rintro ⟨i, hi, hn⟩
  rcases he : e.eval x with f | v
  · obtain ⟨j, hj, hjn, rfl⟩ := HelperExpr.eval_eq_error x e f he
    exact ⟨j, List.mem_append_left _ hj, hjn, rfl⟩
  · have hi' : i ∈ is :=
      (List.mem_append.1 hi).resolve_left fun hi => (HelperExpr.eval_isOk x e).1 ⟨v, he⟩ i hi hn
    obtain ⟨j, hj, hjn, hg⟩ := h v he ⟨i, hi', hn⟩
    exact ⟨j, List.mem_append_right _ hj, hjn, hg⟩

theorem evalWrites (ws : List (HelperExpr × HelperExpr)) :
    UsesArgs x (ws.flatMap fun w => w.1.args ++ w.2.args) (evalWrites x ws) := by
  induction ws with
  | nil => exact nil
  | cons w ws ih =>
    rw [List.flatMap_cons, List.append_assoc]
    exact eval fun _ _ => eval fun _ _ => ih.bind

theorem run (h : HelperBody) : UsesArgs x (h.args x) (h.run x) := by
  induction h with
  | ret e ws => exact eval fun _ _ => (evalWrites ws).bind
  | fault f => exact nil
  | memoryFault e n k why =>
    rw [HelperBody.args, ← List.append_nil e.args]
    exact eval fun _ _ => nil
  | ite c yes no ihyes ihno =>
    refine eval fun v hv => ?_
    rw [hv]
    by_cases hz : v = 0
    · simpa only [if_pos hz] using ihno
    · simpa only [if_neg hz] using ihyes
  | undefined => exact nil

end UsesArgs

/-! ## Written arguments -/

section

variable {x : HelperInput}

theorem evalWrites_isOk (ws : List (HelperExpr × HelperExpr))
    (h : ∀ i ∈ ws.flatMap fun w => w.1.args ++ w.2.args, x.args.get i ≠ none) : ∃ bytes, evalWrites x ws = .ok bytes := by
  induction ws with
  | nil => exact ⟨[], rfl⟩
  | cons w ws ih =>
    rw [List.flatMap_cons, List.forall_mem_append, List.forall_mem_append] at h
    obtain ⟨⟨haddr, hval⟩, hrest⟩ := h
    obtain ⟨addr, ha⟩ := (HelperExpr.eval_isOk x w.1).2 haddr
    obtain ⟨v, hv⟩ := (HelperExpr.eval_isOk x w.2).2 hval
    obtain ⟨bytes, hb⟩ := ih hrest
    exact ⟨(addr, v.setWidth 8) :: bytes, by rw [evalWrites, ha, hv, hb]; rfl⟩

/-- How a definition ends that reaches a given end: with a result, with the fault that the end names, or undefined. A
condition is no end. -/
def EndsAt (r : Except Fault HelperOutcome) : HelperBody → Prop
  | .ret _ _ => ∃ v ws, r = .ok (.done v ws)
  | .fault f => r = .error f
  | .memoryFault _ n k why => ∃ ea, r = .error (.memoryFault ⟨ea, n, k, why⟩)
  | .ite _ _ _ => False
  | .undefined => r = .ok .undefined

theorem run_endsAt_reached (h : HelperBody) (hw : ∀ i ∈ h.args x, x.args.get i ≠ none) :
    EndsAt (h.run x) (h.reached x) := by
  induction h with
  | ret e ws =>
    obtain ⟨he, hws⟩ := List.forall_mem_append.1 hw
    obtain ⟨v, hv⟩ := (HelperExpr.eval_isOk x e).2 he
    obtain ⟨bytes, hb⟩ := evalWrites_isOk ws hws
    exact ⟨v, bytes, HelperBody.run_ret hv hb⟩
  | fault f => rfl
  | memoryFault e n k why =>
    obtain ⟨ea, hea⟩ := (HelperExpr.eval_isOk x e).2 hw
    exact ⟨ea, by rw [HelperBody.run, hea]; rfl⟩
  | ite c yes no ihyes ihno =>
    obtain ⟨hc, hbranch⟩ := List.forall_mem_append.1 hw
    obtain ⟨v, hv⟩ := (HelperExpr.eval_isOk x c).2 hc
    have hrun : (HelperBody.ite c yes no).run x = if v = 0 then no.run x else yes.run x := by
      rw [HelperBody.run, hv]
      rfl
    rw [hv] at hbranch
    rw [hrun, HelperBody.reached, hv]
    by_cases hz : v = 0
    · simp only [if_pos hz] at hbranch ⊢
      exact ihno hbranch
    · simp only [if_neg hz] at hbranch ⊢
      exact ihyes hbranch
  | undefined => rfl

end

/-- Settles O23: the arguments of the input are r1 to r5, and the outcome of the call is that of the definition. -/
theorem helperArgumentsMustBeWritten : Obligations.HelperArgumentsMustBeWritten := by
  intro s imm p hp h hh
  obtain ⟨k, hx, hk⟩ := helperCall_cases hp
  rw [hx]
  have fault {f : Fault} (hf : h.run s.helperInput = .error f) : commit (s.callHelper k imm) = .fault f :=
    (commit_eq_fault _ _).2 (State.callHelper_of_error (hk.trans hh) hf)
  constructor
  · intro i hi hn
    obtain ⟨j, hj, hjn, hf⟩ := UsesArgs.run (x := s.helperInput) h ⟨i, hi, (s.helperInput_args i).trans hn⟩
    exact ⟨j, hj, (s.helperInput_args j).symm.trans hjn, fault hf⟩
  · intro hw
    have hends := run_endsAt_reached (x := s.helperInput) h fun i hi => by rw [s.helperInput_args]; exact hw i hi
    cases hr : h.reached s.helperInput with rw [hr] at hends
    | ret e ws =>
      obtain ⟨v, bytes, hrun⟩ := hends
      exact ⟨_, (commit_eq_next _ _).2 (State.callHelper_of_done (hk.trans hh) hrun)⟩
    | fault f => exact fault hends
    | memoryFault e n kind why =>
      obtain ⟨ea, hf⟩ := hends
      exact ⟨ea, fault hf⟩
    | ite c yes no => exact hends
    | undefined => exact hends

end Sys2Proof.Machine
end

section
/-! SUPPORT. Loads from memory that is not shared, and stores (43_load_store.md R217 to R220): the next state and what it leaves
unchanged. -/

namespace Sys2Proof.Machine

section

variable {s : State} {n : AccessSize} {d r : Reg} {off : BitVec 16} {base : Word}

/-! ## The next state -/

/-- A load from memory that is not shared draws no oracle value (20_memory.md R36). -/
theorem loadInto_next_of_private (ext : Word → Word) (hw : s.Writable d) (hb : s.reg r = some base)
    (hal : s.Aligned (effectiveAddress base off) n .read) (had : s.Admitted (effectiveAddress base off) n .read)
    (hpriv : s.Private (effectiveAddress base off) n) :
    commit (loadInto n ext d r off s) =
      .next ((s.setReg d (ext (s.load (effectiveAddress base off) n))).advance 1) := by
  rw [loadInto_next ext hw hb hal had, s.afterLoad_of_private _ _ hpriv]

theorem storeImm_next {imm : Word32} (hb : s.reg d = some base)
    (hal : s.Aligned (effectiveAddress base off) n .write) (had : s.Admitted (effectiveAddress base off) n .write) :
    commit (storeImm n d off imm s) =
      .next ((s.store (effectiveAddress base off) n (imm.signExtend 64)).advance 1) :=
  (commit_eq_next _ _).2 ((storeImm_eq_ok ..).2 ⟨base, hb, State.checks_of_allowed hal had, rfl⟩)

end

/-! ## What a store leaves unchanged -/

/-- A store changes the bytes of its access, and control goes on to the next slot (20_memory.md R37). -/
theorem storeResult_store_advance (s : State) (ea : Word) (n : AccessSize) (v : Word) :
    StoreResult ea n v s ((s.store ea n v).advance 1) :=
  ⟨s.storesAt_store ea n v v fun _ _ => rfl, fun _ _ => rfl, rfl, rfl, ⟨⟨rfl, rfl, rfl, rfl⟩, rfl⟩, ⟨rfl, rfl⟩,
    ⟨⟨rfl, rfl⟩, rfl, rfl⟩⟩

/-! ## The statements -/

/-- Settles O27: the load writes the number that the bytes of the access hold, extended, to its destination. -/
theorem loadResults : Obligations.LoadResults := by
  intro s d r off base hw hb p hp
  have hx : exec p.1 s = commit (loadInto p.2.1 p.2.2 d r off s) := by
    revert p
    simp only [List.forall_mem_cons]
    exact ⟨rfl, rfl, rfl, rfl, rfl, rfl, rfl, List.forall_mem_nil _⟩
  intro hal had hpriv
  exact ⟨_, s.load (effectiveAddress base off) p.2.1, hx.trans (loadInto_next_of_private p.2.2 hw hb hal had hpriv),
    s.load_of_private _ _ hpriv, registerResult_setReg_advance s d _ 1⟩

/-- Settles O29: each row stores its operand, the sign-extended immediate or the source register. -/
theorem storeResults : Obligations.StoreResults := by
  intro s d r off imm base v hb hv p hp
  have hx : s.Aligned (effectiveAddress base off) p.2.1 .write → s.Admitted (effectiveAddress base off) p.2.1 .write →
      exec p.1 s = .next ((s.store (effectiveAddress base off) p.2.1 p.2.2).advance 1) := by
    revert p
    simp only [List.forall_mem_cons]
    exact ⟨storeImm_next hb, storeImm_next hb, storeImm_next hb, storeImm_next hb, storeReg_next hb hv,
      storeReg_next hb hv, storeReg_next hb hv, storeReg_next hb hv, List.forall_mem_nil _⟩
  intro hal had
  exact ⟨_, hx hal had, storeResult_store_advance s _ _ _⟩

end Sys2Proof.Machine
end

section
/-! SUPPORT. Atomics on memory that is not shared (44_atomic.md R238 to R242): the next state of the three operand forms, and
what it leaves unchanged. -/

namespace Sys2Proof.Machine

section

variable {s : State} {ea : Word} {n : AccessSize} {v w : Word}

/-! ## Stores whose value is cut to the size of the access -/

/-- An operation on the low bytes of the source register gives the low bytes of the operation on the whole register
(44_atomic.md R242). -/
theorem UsesLowBytes.extract_eq {f : Word → Word → Word} (hf : UsesLowBytes n f) (old v : Word) :
    ∀ i < n.bytes, (f old (lowBytes n.bytes v)).extractLsb' (8 * i) 8 = (f old v).extractLsb' (8 * i) 8 :=
  fun _ hi => extract_eq_of_setWidth_eq (hf _ _ _ (setWidth_lowBytes n v)) hi

/-- A store of `w` has the result of a store of `v` where the low bytes of the two agree (20_memory.md R37). -/
theorem storeResult_store_advance_of_lowBytes (s : State) (ea : Word)
    (h : ∀ i < n.bytes, w.extractLsb' (8 * i) 8 = v.extractLsb' (8 * i) 8) :
    StoreResult ea n v s ((s.store ea n w).advance 1) := by
  obtain ⟨_, hrest⟩ := storeResult_store_advance s ea n w
  exact ⟨s.storesAt_store ea n v w h, hrest⟩

/-! ## A store together with a write of the old value to a register -/

/-- The result of an instruction that stores `v` at `ea`, writes `old` to register `r` and changes nothing else but `pc`
(44_atomic.md R240). -/
def StoreAndFetchResult (ea : Word) (n : AccessSize) (v : Word) (r : Reg) (old : Word) (s t : State) : Prop :=
  StoresAt ea n v s t ∧ t.reg r = some old ∧ KeepsRegsBut [r] s t ∧ t.pc = s.pc + 1 ∧ t.frames = s.frames ∧
    KeepsPlatform s t ∧ KeepsOracle s t ∧ KeepsHelpers s t

theorem storeAndFetchResult_of_lowBytes (s : State) (ea : Word) (r : Reg) (old : Word)
    (h : ∀ i < n.bytes, w.extractLsb' (8 * i) 8 = v.extractLsb' (8 * i) 8) :
    StoreAndFetchResult ea n v r old s (((s.store ea n w).setReg r old).advance 1) := by
  obtain ⟨hstore, _, hrest⟩ := storeResult_store_advance_of_lowBytes s ea h
  refine ⟨hstore, ?_, keepsRegsBut_setReg (fun _ => rfl) r old, hrest⟩
  rw [State.advance_reg, State.reg_setReg_same]

end

/-! ## The three operand forms -/

section

variable {s : State} {n : AccessSize} {d r : Reg} {off : BitVec 16} {base v : Word}

/-- Memory receives the result; no register is written (44_atomic.md R238). -/
theorem atomicModify_private {f : Word → Word → Word} (hf : UsesLowBytes n f) (hb : s.reg d = some base)
    (hv : s.reg r = some v) (hal : s.Aligned (effectiveAddress base off) n .atomic)
    (had : s.Admitted (effectiveAddress base off) n .atomic) (hpriv : s.Private (effectiveAddress base off) n) :
    ∃ t, commit (atomicModify n f d r off s) = .next t ∧
      StoreResult (effectiveAddress base off) n (f (s.load (effectiveAddress base off) n) v) s t := by
  refine ⟨_, atomicModify_next f hb hv hal had, ?_⟩
  rw [s.afterLoad_of_private _ _ hpriv]
  exact storeResult_store_advance_of_lowBytes s _ (hf.extract_eq _ v)

/-- As `atomicModify_private`, and the source register receives the old value (44_atomic.md R240). -/
theorem atomicFetch_private {f : Word → Word → Word} (hf : UsesLowBytes n f) (hw : s.Writable r) (hb : s.reg d = some base)
    (hv : s.reg r = some v) (hal : s.Aligned (effectiveAddress base off) n .atomic)
    (had : s.Admitted (effectiveAddress base off) n .atomic) (hpriv : s.Private (effectiveAddress base off) n) :
    ∃ t, commit (atomicFetch n f d r off s) = .next t ∧
      StoreAndFetchResult (effectiveAddress base off) n (f (s.load (effectiveAddress base off) n) v) r
        (s.load (effectiveAddress base off) n) s t := by
  refine ⟨_, atomicFetch_next f hw hb hv hal had, ?_⟩
  rw [s.afterLoad_of_private _ _ hpriv]
  exact storeAndFetchResult_of_lowBytes s _ r _ (hf.extract_eq _ v)

/-- A match stores the source register, any other old value leaves memory as it is; r0 receives the old value in both cases
(44_atomic.md R241). -/
theorem atomicCompareExchange_private {c : Word} (hb : s.reg d = some base) (hv : s.reg r = some v) (hc : s.reg 0 = some c)
    (hal : s.Aligned (effectiveAddress base off) n .atomic) (had : s.Admitted (effectiveAddress base off) n .atomic)
    (hpriv : s.Private (effectiveAddress base off) n) :
    ∃ t, commit (atomicCompareExchange n d r off s) = .next t ∧
      (((s.load (effectiveAddress base off) n).toNat = c.toNat % 2 ^ (8 * n.bytes) ∧
          StoreAndFetchResult (effectiveAddress base off) n v 0 (s.load (effectiveAddress base off) n) s t) ∨
        ((s.load (effectiveAddress base off) n).toNat ≠ c.toNat % 2 ^ (8 * n.bytes) ∧
          RegisterResult 0 (s.load (effectiveAddress base off) n) 1 s t)) := by
  refine ⟨_, atomicCompareExchange_next hb hv hc hal had, ?_⟩
  by_cases hm : (s.load (effectiveAddress base off) n).toNat = c.toNat % 2 ^ (8 * n.bytes)
  · rw [State.exchanged_of_eq hm, s.afterLoad_of_private _ _ hpriv]
    exact .inl ⟨hm, storeAndFetchResult_of_lowBytes s _ 0 _ ((usesLowBytes_second n).extract_eq 0 v)⟩
  · rw [State.exchanged_of_ne hm, s.afterLoad_of_private _ _ hpriv]
    exact .inr ⟨hm, registerResult_setReg_advance s 0 _ 1⟩

end

/-! ## The statements -/

/-- Settles O32: the old value is what the load of the access gives, and each row is the operation of its instruction. -/
theorem atomicResults : Obligations.AtomicResults := by
  intro s d r off base v hb hv p hp
  have hx : exec p.1 s = commit (atomicModify p.2.1 p.2.2 d r off s) ∧ UsesLowBytes p.2.1 p.2.2 := by
    revert p
    simp only [List.forall_mem_cons]
    exact ⟨⟨rfl, usesLowBytes_add _⟩, ⟨rfl, usesLowBytes_or _⟩, ⟨rfl, usesLowBytes_and _⟩, ⟨rfl, usesLowBytes_xor _⟩,
      ⟨rfl, usesLowBytes_add _⟩, ⟨rfl, usesLowBytes_or _⟩, ⟨rfl, usesLowBytes_and _⟩, ⟨rfl, usesLowBytes_xor _⟩,
      List.forall_mem_nil _⟩
  obtain ⟨hexec, hlow⟩ := hx
  intro hal had hpriv
  obtain ⟨t, ht, hres⟩ := atomicModify_private hlow hb hv hal had hpriv
  exact ⟨t, _, hexec.trans ht, s.load_of_private _ _ hpriv, hres⟩

/-- Settles O33: the base is read before the source register is written, so the two may be the same register. -/
theorem atomicFetchResults : Obligations.AtomicFetchResults := by
  intro s d r off base v hw hb hv p hp
  have hx : exec p.1 s = commit (atomicFetch p.2.1 p.2.2 d r off s) ∧ UsesLowBytes p.2.1 p.2.2 := by
    revert p
    simp only [List.forall_mem_cons]
    exact ⟨⟨rfl, usesLowBytes_add _⟩, ⟨rfl, usesLowBytes_or _⟩, ⟨rfl, usesLowBytes_and _⟩, ⟨rfl, usesLowBytes_xor _⟩,
      ⟨rfl, usesLowBytes_second _⟩, ⟨rfl, usesLowBytes_add _⟩, ⟨rfl, usesLowBytes_or _⟩, ⟨rfl, usesLowBytes_and _⟩,
      ⟨rfl, usesLowBytes_xor _⟩, ⟨rfl, usesLowBytes_second _⟩, List.forall_mem_nil _⟩
  obtain ⟨hexec, hlow⟩ := hx
  intro hal had hpriv
  obtain ⟨t, ht, hres⟩ := atomicFetch_private hlow hw hb hv hal had hpriv
  exact ⟨t, _, hexec.trans ht, s.load_of_private _ _ hpriv, hres⟩

/-- Settles O34: on a match memory and r0 are written, otherwise r0 alone. -/
theorem compareExchangeResults : Obligations.CompareExchangeResults := by
  intro s d r off base v c hb hv hc p hp
  have hx : exec p.1 s = commit (atomicCompareExchange p.2 d r off s) := by
    revert p
    simp only [List.forall_mem_cons]
    exact ⟨rfl, rfl, List.forall_mem_nil _⟩
  intro hal had hpriv
  obtain ⟨t, ht, hcases⟩ := atomicCompareExchange_private hb hv hc hal had hpriv
  refine ⟨t, _, hx.trans ht, s.load_of_private _ _ hpriv, ?_⟩
  rcases hcases with ⟨hmatch, hstore, hrest⟩ | ⟨hne, hreg, hregs, hpc, hframes, hmem, hrest⟩
  · exact ⟨fun _ => hstore, fun hn => absurd hmatch hn, hrest⟩
  · exact ⟨fun he => absurd he hne, fun _ => hmem, hreg, hregs, hpc, hframes, hrest⟩

end Sys2Proof.Machine
end

section
/-! SUPPORT. The platform addresses (45_imm64.md R265, R268, R269): the outcome of a lookup where the platform function has a
value and where it has none. -/

namespace Sys2Proof.Machine

variable {s : State} {d : Reg}

/-! ## The outcome of a lookup -/

/-- Where the platform function has the value `a`, register `d` receives it and `pc` moves past both slots. -/
theorem wideLookup_next (k : BitVec 4) (imm : Word32) {v : Option Word} {a : Word} (hw : s.Writable d) (hv : v = some a) :
    ∃ t, commit (wideLookup k imm v d s) = .next t ∧ RegisterResult d a 2 s t :=
  ⟨_, (commit_eq_next _ _).2 ((wideLookup_eq_ok ..).2 ⟨hw, a, hv, rfl⟩), registerResult_setReg_advance s d a 2⟩

/-- Where the platform function has no value, the fault names the subtype and `imm` (60_exceptions.md R295). -/
theorem wideLookup_fault (k : BitVec 4) (imm : Word32) {v : Option Word} (hw : s.Writable d) (hv : v = none) :
    commit (wideLookup k imm v d s) = .fault (.unknownPlatformObject k imm) := by
  subst hv
  rw [wideLookup, (s.checkDest_eq_ok d ()).2 hw]
  rfl

/-! ## The statements -/

/-- Settles O37: each of the six forms is the lookup of its platform function. -/
theorem platformAddressResults : Obligations.PlatformAddressResults := by
  intro s d imm next hw p hp
  have hx : ∃ k, exec p.1 s = commit (wideLookup k imm p.2 d s) := by
    revert p
    simp only [List.forall_mem_cons]
    exact ⟨⟨1, rfl⟩, ⟨2, rfl⟩, ⟨3, rfl⟩, ⟨4, rfl⟩, ⟨5, rfl⟩, ⟨6, rfl⟩, List.forall_mem_nil _⟩
  obtain ⟨k, hexec⟩ := hx
  intro a ha
  rw [hexec]
  exact wideLookup_next k imm hw ha

/-- Settles O38: a map value form adds `next_imm` to what the platform answers, and so has no value where the platform has
none. -/
theorem unknownPlatformObjects : Obligations.UnknownPlatformObjects := by
  intro s d imm next hw p hp
  have hx : ∃ v, exec p.1 s = commit (wideLookup p.2.1 imm v d s) ∧ (p.2.2 = none → v = none) := by
    revert p
    simp only [List.forall_mem_cons]
    exact ⟨⟨_, rfl, id⟩, ⟨_, rfl, Option.map_eq_none_iff.2⟩, ⟨_, rfl, id⟩, ⟨_, rfl, id⟩, ⟨_, rfl, id⟩,
      ⟨_, rfl, Option.map_eq_none_iff.2⟩, List.forall_mem_nil _⟩
  obtain ⟨v, hexec, hv⟩ := hx
  intro hnone
  rw [hexec]
  exact wideLookup_fault p.2.1 imm hw (hv hnone)

end Sys2Proof.Machine
end

section
/-! SUPPORT. The legacy packet instructions (46_legacy_packet.md R277, R278): what decodes from one of their opcode bytes
is of the group that no implementation supports. -/

namespace Sys2Proof

/-- What holds of every instruction that a format makes holds of the one that it builds from given fields. -/
theorem Format.ForAll.of_build {P : Instr → Prop} {p : Format} (hp : p.ForAll P) {f : Fields} {next : Word32} {i : Instr}
    (h : p.build f next = some i) : P i := by
  cases p <;> simp only [Format.build, Option.map_eq_some_iff, Option.bind_eq_some_iff, Option.some.injEq] at h
  case exit => exact h ▸ hp
  case ja | ja32 | call | ldAbs => exact h ▸ hp _
  case neg | byteSwap => obtain ⟨d, _, rfl⟩ := h; exact hp d
  case aluK | imm64 | ldInd => obtain ⟨d, _, rfl⟩ := h; exact hp d _
  case jmpK | st | imm64Next => obtain ⟨d, _, rfl⟩ := h; exact hp d _ _
  case aluX => obtain ⟨d, _, r, _, rfl⟩ := h; exact hp d r
  case jmpX | ldx | stx | atomic => obtain ⟨d, _, r, _, rfl⟩ := h; exact hp d r _

/-- No row of another group has the opcode byte of a packet instruction (30_encoding.md R62). -/
theorem mem_opcodeRowsPacket {r : OpcodeRow} (hm : r ∈ opcodeRows) (ho : r.opcode ∈ opcodeRowsPacket.map (·.opcode)) :
    r ∈ opcodeRowsPacket := by
  have hfilter : opcodeRows.filter (·.opcode ∈ opcodeRowsPacket.map (·.opcode)) = opcodeRowsPacket := rfl
  exact hfilter ▸ List.mem_filter.2 ⟨hm, decide_eq_true ho⟩

theorem opcodeRowsPacket_group : ∀ r ∈ opcodeRowsPacket, r.format.ForAll (·.group = .packet) := by
  simp only [opcodeRowsPacket, List.forall_mem_cons]
  exact ⟨fun _ => rfl, fun _ => rfl, fun _ => rfl, fun _ _ => rfl, fun _ _ => rfl, fun _ _ => rfl, List.forall_mem_nil _⟩

theorem group_of_decode_packet {e : HostEndian} {strict : Bool} {x : Slot} {y : Option Slot} {i : Instr}
    (ho : x.b0 ∈ opcodeRowsPacket.map (·.opcode)) (h : decode e strict x y = .ok i) : i.group = .packet := by
  obtain ⟨⟨r, hm, hop, _, hb⟩, _⟩ := row_of_decodeFields h
  rw [Slot.fields_opcode] at hop
  exact (opcodeRowsPacket_group r (mem_opcodeRowsPacket hm (hop ▸ ho))).of_build hb

/-- `SUPPORTED_GROUPS` never holds `packet` (46_legacy_packet.md R278). -/
theorem Instr.wellFormed_of_group_packet {i : Instr} (h : i.group = .packet) (p : Params) : i.wellFormed p = false := by
  rw [Instr.wellFormed, h, Groups.supports]

end Sys2Proof

namespace Sys2Proof.Machine

/-- Settles O39: the meaning of each form is the fault, and at a step the fetch refuses the slot, by the decoder or for its
group. -/
theorem packetInstructionsStop : Obligations.PacketInstructionsStop := by
  constructor
  case left =>
    intro s r imm
    simp only [List.forall_mem_cons]
    exact ⟨rfl, rfl, rfl, rfl, rfl, rfl, List.forall_mem_nil _⟩
  case right =>
    intro s x hr hs hx hb
    obtain ⟨hrefused, hunsupported⟩ := (fetchFaults s hr).2 x hs hx
    cases hd : decode s.params.hostEndian s.params.strictReserved x s.program[s.pc + 1]? with
    | error e => exact hrefused e hd
    | ok i => exact hunsupported i hd (Instr.wellFormed_of_group_packet (group_of_decode_packet hb hd) s.params)

end Sys2Proof.Machine
end

section
/-! SUPPORT. `FramePointerWrite` (10_state.md R20; 60_exceptions.md R289, R296): the check of the destination comes first and is
the only part of an instruction that raises it, but for a helper that is itself defined to raise it. -/

namespace Sys2Proof

theorem Instr.destination_of_callsHelper {i : Instr} (hi : i.callsHelper) : i.destination = none := by
  obtain ⟨imm, rfl | rfl⟩ := hi <;> rfl

end Sys2Proof

namespace Sys2Proof.Machine

/-! ## Where the parts of an instruction fail -/

theorem State.checkDest_eq_error (s : State) (d : Reg) (f : Fault) :
    s.checkDest d = .error f ↔ s.params.r10ReadOnly = true ∧ d = 10 ∧ f = .framePointerWrite s.pc := by
  unfold State.checkDest
  by_cases hd : d = 10 <;> cases s.params.r10ReadOnly <;> simp [hd, eq_comm (a := f)]

theorem State.leaveFunction_eq_error (s : State) (f : Fault) :
    s.leaveFunction = .error f ↔ s.reg 0 = none ∧ f = .uninitRegister 0 := by
  rw [← s.readReg_eq_error, State.leaveFunction]
  cases s.readReg 0 with
  | error g => simp
  | ok v => cases s.frames <;> simp

/-- The call of an undefined helper fails for an argument that it uses, or else with the fault of its answer
(42_jump.md R211; log 10). -/
theorem State.callUndefined_eq_error (s : State) (k : HelperKind) (id : Word32) (f : Fault) :
    s.callUndefined k id = .error f ↔
      (∃ r, s.unwrittenArg (s.helperNext k id).uses = some r ∧ f = .uninitRegister r) ∨
      (s.unwrittenArg (s.helperNext k id).uses = none ∧ (s.helperNext k id).fails = some f) := by
  unfold State.callUndefined
  cases hu : s.unwrittenArg (s.helperNext k id).uses <;> cases hf : (s.helperNext k id).fails <;>
    simp [hu, hf, eq_comm]

/-! ## Instructions other than helper calls -/

/-- The outcome of an instruction with the destination `dest` is `FramePointerWrite` exactly where the destination is r10 and
r10 is read-only (60_exceptions.md R289). -/
def FramePointerFaults (dest : Option Reg) (s : State) (o : Host.Outcome State Fault Refusal) : Prop :=
  ∀ k, o = .fault (.framePointerWrite k) ↔ s.params.r10ReadOnly = true ∧ dest = some 10 ∧ k = s.pc

namespace FramePointerFaults

variable {s : State}

/-! ### The parts of a computation -/

/-- Without a destination, the computation must not fail with `FramePointerWrite`. -/
theorem of_ne {x : Except Fault State} (h : ∀ k, x ≠ .error (.framePointerWrite k)) :
    FramePointerFaults none s (commit x) := by
  intro k
  simp [commit_eq_fault, h k]

theorem done (t : State) : FramePointerFaults none s (commit (return t)) := of_ne fun _ => return_ne_error t _

/-- A part that does not raise the fault, before the rest of the computation. -/
theorem bind {α : Type} {x : Except Fault α} {g : α → Except Fault State} (hx : ∀ k, x ≠ .error (.framePointerWrite k))
    (hg : ∀ a, FramePointerFaults none s (commit (g a))) : FramePointerFaults none s (commit (x >>= g)) := by
  cases x with
  | error f => exact of_ne fun k hk => hx k (congrArg Except.error (Except.error.inj hk))
  | ok a => exact hg a

theorem read {r : Reg} {g : Word → Except Fault State} (hg : ∀ v, FramePointerFaults none s (commit (g v))) :
    FramePointerFaults none s (commit (s.readReg r >>= g)) :=
  bind (fun k => by simp [State.readReg_eq_error]) hg

theorem access {ea : Word} {n : AccessSize} {kind : AccessKind} {g : Unit → Except Fault State}
    (hg : ∀ u, FramePointerFaults none s (commit (g u))) :
    FramePointerFaults none s (commit (s.checkAccess ea n kind >>= g)) :=
  bind (fun k => by simp [State.checkAccess_eq_error]) hg

/-- The check of the destination decides, before the rest of the computation (60_exceptions.md R296). -/
theorem checkDest {d : Reg} {g : Unit → Except Fault State} (hg : FramePointerFaults none s (commit (g ()))) :
    FramePointerFaults (some d) s (commit (s.checkDest d >>= g)) := by
  intro k
  have hrest : g () ≠ .error (.framePointerWrite k) := by simpa [commit_eq_fault] using hg k
  simp [commit_eq_fault, bind_eq_error, State.checkDest_eq_error, hrest]

/-! ### The shapes of meaning -/

theorem alu64Imm (f : Word → Word → Word) (d : Reg) (imm : Word32) :
    FramePointerFaults (some d) s (commit (alu64Imm f d imm s)) := checkDest (read fun _ => done _)

theorem alu64Reg (f : Word → Word → Word) (d r : Reg) : FramePointerFaults (some d) s (commit (alu64Reg f d r s)) :=
  checkDest (read fun _ => read fun _ => done _)

theorem alu32Imm (f : Word32 → Word32 → Word32) (d : Reg) (imm : Word32) :
    FramePointerFaults (some d) s (commit (alu32Imm f d imm s)) := checkDest (read fun _ => done _)

theorem alu32Reg (f : Word32 → Word32 → Word32) (d r : Reg) : FramePointerFaults (some d) s (commit (alu32Reg f d r s)) :=
  checkDest (read fun _ => read fun _ => done _)

theorem unary (f : Word → Word) (d : Reg) : FramePointerFaults (some d) s (commit (unary f d s)) :=
  checkDest (read fun _ => done _)

theorem moveValue (v : Word) (d : Reg) : FramePointerFaults (some d) s (commit (moveValue v d s)) := checkDest (done _)

theorem moveReg (f : Word → Word) (d r : Reg) : FramePointerFaults (some d) s (commit (moveReg f d r s)) :=
  checkDest (read fun _ => done _)

theorem jump (delta : Int) : FramePointerFaults none s (commit (s.jump delta)) :=
  of_ne fun k => by simp [State.jump_eq_error]

theorem branch (taken : Bool) (off : BitVec 16) : FramePointerFaults none s (commit (branch taken off s)) := by
  cases taken with
  | true => exact jump _
  | false => exact done _

theorem jump64Imm (c : Word → Word → Bool) (d : Reg) (imm : Word32) (off : BitVec 16) :
    FramePointerFaults none s (commit (jump64Imm c d imm off s)) := read fun _ => branch _ _

theorem jump64Reg (c : Word → Word → Bool) (d r : Reg) (off : BitVec 16) :
    FramePointerFaults none s (commit (jump64Reg c d r off s)) := read fun _ => read fun _ => branch _ _

theorem jump32Imm (c : Word32 → Word32 → Bool) (d : Reg) (imm : Word32) (off : BitVec 16) :
    FramePointerFaults none s (commit (jump32Imm c d imm off s)) := read fun _ => branch _ _

theorem jump32Reg (c : Word32 → Word32 → Bool) (d r : Reg) (off : BitVec 16) :
    FramePointerFaults none s (commit (jump32Reg c d r off s)) := read fun _ => read fun _ => branch _ _

theorem callLocal (delta : Int) : FramePointerFaults none s (commit (s.callLocal delta)) :=
  of_ne fun k => by simp [State.callLocal_eq_error]

theorem leaveFunction : FramePointerFaults none s (commit s.leaveFunction) :=
  of_ne fun k => by simp [State.leaveFunction_eq_error]

theorem loadInto (n : AccessSize) (ext : Word → Word) (d r : Reg) (off : BitVec 16) :
    FramePointerFaults (some d) s (commit (loadInto n ext d r off s)) :=
  checkDest (read fun _ => access fun _ => done _)

theorem storeImm (n : AccessSize) (d : Reg) (off : BitVec 16) (imm : Word32) :
    FramePointerFaults none s (commit (storeImm n d off imm s)) := read fun _ => access fun _ => done _

theorem storeReg (n : AccessSize) (d r : Reg) (off : BitVec 16) :
    FramePointerFaults none s (commit (storeReg n d r off s)) := read fun _ => read fun _ => access fun _ => done _

theorem atomicModify (n : AccessSize) (f : Word → Word → Word) (d r : Reg) (off : BitVec 16) :
    FramePointerFaults none s (commit (atomicModify n f d r off s)) :=
  read fun _ => read fun _ => access fun _ => done _

theorem atomicFetch (n : AccessSize) (f : Word → Word → Word) (d r : Reg) (off : BitVec 16) :
    FramePointerFaults (some r) s (commit (atomicFetch n f d r off s)) :=
  checkDest (read fun _ => read fun _ => access fun _ => done _)

theorem atomicCompareExchange (n : AccessSize) (d r : Reg) (off : BitVec 16) :
    FramePointerFaults none s (commit (atomicCompareExchange n d r off s)) :=
  read fun _ => read fun _ => read fun _ => access fun _ => done _

theorem wideValue (v : Word) (d : Reg) : FramePointerFaults (some d) s (commit (wideValue v d s)) := checkDest (done _)

theorem wideLookup (subtype : BitVec 4) (imm : Word32) (v : Option Word) (d : Reg) :
    FramePointerFaults (some d) s (commit (wideLookup subtype imm v d s)) := by
  cases v with
  | some a => exact checkDest (done _)
  | none => exact checkDest (of_ne nofun)

theorem illegalInstruction (slot : Nat) : FramePointerFaults none s (.fault (.illegalInstruction slot)) := by
  intro k
  simp

end FramePointerFaults

/-- Every instruction that calls no helper, by its operand form. -/
theorem exec_framePointerFaults (i : Instr) (s : State) (hi : ¬ i.callsHelper) :
    FramePointerFaults i.destination s (exec i s) := by
  cases i with
  | add64Imm | sub64Imm | mul64Imm | div64Imm | sdiv64Imm | or64Imm | and64Imm | lsh64Imm | rsh64Imm | mod64Imm
  | smod64Imm | xor64Imm | arsh64Imm =>
    exact .alu64Imm _ _ _
  | add64Reg | sub64Reg | mul64Reg | div64Reg | sdiv64Reg | or64Reg | and64Reg | lsh64Reg | rsh64Reg | mod64Reg
  | smod64Reg | xor64Reg | arsh64Reg =>
    exact .alu64Reg _ _ _
  | add32Imm | sub32Imm | mul32Imm | div32Imm | sdiv32Imm | or32Imm | and32Imm | lsh32Imm | rsh32Imm | mod32Imm
  | smod32Imm | xor32Imm | arsh32Imm =>
    exact .alu32Imm _ _ _
  | add32Reg | sub32Reg | mul32Reg | div32Reg | sdiv32Reg | or32Reg | and32Reg | lsh32Reg | rsh32Reg | mod32Reg
  | smod32Reg | xor32Reg | arsh32Reg =>
    exact .alu32Reg _ _ _
  | neg64 | neg32 | le16 | le32 | le64 | be16 | be32 | be64 | bswap16 | bswap32 | bswap64 =>
    exact .unary _ _
  | mov64Imm | mov32Imm =>
    exact .moveValue _ _
  | mov64Reg | mov32Reg | movsx64From8 | movsx64From16 | movsx64From32 | movsx32From8 | movsx32From16 =>
    exact .moveReg _ _ _
  | ja | ja32 =>
    exact .jump _
  | jeq64Imm | jgt64Imm | jge64Imm | jset64Imm | jne64Imm | jsgt64Imm | jsge64Imm | jlt64Imm | jle64Imm
  | jslt64Imm | jsle64Imm =>
    exact .jump64Imm _ _ _ _
  | jeq64Reg | jgt64Reg | jge64Reg | jset64Reg | jne64Reg | jsgt64Reg | jsge64Reg | jlt64Reg | jle64Reg
  | jslt64Reg | jsle64Reg =>
    exact .jump64Reg _ _ _ _
  | jeq32Imm | jgt32Imm | jge32Imm | jset32Imm | jne32Imm | jsgt32Imm | jsge32Imm | jlt32Imm | jle32Imm
  | jslt32Imm | jsle32Imm =>
    exact .jump32Imm _ _ _ _
  | jeq32Reg | jgt32Reg | jge32Reg | jset32Reg | jne32Reg | jsgt32Reg | jsge32Reg | jlt32Reg | jle32Reg
  | jslt32Reg | jsle32Reg =>
    exact .jump32Reg _ _ _ _
  | callHelper imm => exact absurd ⟨imm, .inl rfl⟩ hi
  | callBtf imm => exact absurd ⟨imm, .inr rfl⟩ hi
  | callLocal => exact .callLocal _
  | exit => exact .leaveFunction
  | ldxw | ldxh | ldxb | ldxdw | ldxsw | ldxsh | ldxsb =>
    exact .loadInto _ _ _ _ _
  | stw | sth | stb | stdw =>
    exact .storeImm _ _ _ _
  | stxw | stxh | stxb | stxdw =>
    exact .storeReg _ _ _ _
  | atomicAdd32 | atomicOr32 | atomicAnd32 | atomicXor32 | atomicAdd64 | atomicOr64 | atomicAnd64 | atomicXor64 =>
    exact .atomicModify _ _ _ _ _
  | atomicFetchAdd32 | atomicFetchOr32 | atomicFetchAnd32 | atomicFetchXor32 | atomicXchg32 | atomicFetchAdd64
  | atomicFetchOr64 | atomicFetchAnd64 | atomicFetchXor64 | atomicXchg64 =>
    exact .atomicFetch _ _ _ _ _
  | atomicCmpxchg32 | atomicCmpxchg64 =>
    exact .atomicCompareExchange _ _ _ _
  | lddw =>
    exact .wideValue _ _
  | ldMapFd | ldMapValFd | ldVarAddr | ldCodeAddr | ldMapIdx | ldMapValIdx =>
    exact .wideLookup _ _ _ _
  | ldabsw | ldabsh | ldabsb | ldindw | ldindh | ldindb =>
    exact .illegalInstruction _

/-! ## Helper calls -/

/-- A call fails with `FramePointerWrite` only where its definition raises it, or the answer for an undefined effect
(42_jump.md R211, R212). -/
theorem State.framePointerWrite_of_callHelper {s : State} {kind : HelperKind} {id : Word32} {k : Nat}
    (hx : s.callHelper kind id = .error (.framePointerWrite k)) :
    ∃ h, s.helper kind id = some h ∧ (h.run s.helperInput = .error (.framePointerWrite k) ∨
      (h.run s.helperInput = .ok .undefined ∧ (s.helperNext kind id).fails = some (.framePointerWrite k))) := by
  obtain ⟨_, hunknown⟩ | ⟨h, hh, hraised | ⟨hundefined, hanswer⟩⟩ := (s.callHelper_eq_error kind id _).1 hx
  · cases hunknown
  · exact ⟨h, hh, .inl hraised⟩
  · obtain ⟨_, _, huninit⟩ | ⟨_, hfails⟩ := (s.drawSnapshot.callUndefined_eq_error kind id _).1 hanswer
    · cases huninit
    · exact ⟨h, hh, .inr ⟨hundefined, hfails⟩⟩

/-- Settles O40: a helper call has no destination and fails as its helper does; any other instruction fails so by the check of
its destination alone. -/
theorem framePointerWrites : Obligations.FramePointerWrites := by
  intro s i
  by_cases hi : i.callsHelper
  case neg =>
    have hx := exec_framePointerFaults i s hi
    exact ⟨fun hro hd => (hx s.pc).2 ⟨hro, hd, rfl⟩, fun k hk => .inl ((hx k).1 hk)⟩
  case pos =>
    refine ⟨fun _ hd => ?_, fun k hk => .inr ?_⟩
    · rw [Instr.destination_of_callsHelper hi] at hd
      cases hd
    · obtain ⟨imm, rfl | rfl⟩ := hi
      · exact ⟨imm, (.callHelper imm, .static), by simp, rfl,
          State.framePointerWrite_of_callHelper ((commit_eq_fault _ _).1 hk)⟩
      · exact ⟨imm, (.callBtf imm, .btf), by simp, rfl,
          State.framePointerWrite_of_callHelper ((commit_eq_fault _ _).1 hk)⟩

end Sys2Proof.Machine
end

section
/-! SUPPORT. The start and the end of a run (70_reset_and_hazards.md R307, R308, R310): the state after reset, an instruction
placed at `pc`, and `exit` without a frame. -/

namespace Sys2Proof.Machine

/-! ## The state after reset -/

theorem State.reset_reg_isSome (r : Reg) : (State.reset.reg r).isSome = true := by
  revert r
  decide

/-- The default of `SDIV_OVERFLOW` wraps: the quotient is the least number, the remainder 0 (40_alu.md R75). -/
theorem defaultSdivOverflow_eq : defaultSdivOverflow = ⟨BitVec.intMin 64, 0, BitVec.intMin 32, 0⟩ := by decide

/-- Settles O53: the fields are those of the entry state at the default parameters. -/
theorem resetState : Obligations.ResetState :=
  ⟨State.reset_pc, State.reset_frames, State.reset_result, State.reset_mem, State.reset_program, State.reset_reg_isSome,
    rfl, rfl, rfl, rfl, rfl, rfl, rfl, defaultSdivOverflow_eq, State.reset_helpers, State.reset_btfHelpers,
    rfl, rfl, rfl, rfl, rfl⟩

/-- Settles O54: slot 0 is the end of the empty program. -/
theorem resetInvariant : Obligations.ResetInvariant :=
  ⟨wf_reset, Nat.zero_le _, .inr rfl, List.forall_mem_nil _⟩

/-! ## An instruction placed at `pc` -/

/-- Whether a slot is the first one of an instruction depends on the slots before it alone (42_jump.md R159). -/
theorem startsAt_length_congr (front : List Slot) (x y : Slot) (xs ys : List Slot) (second : Bool) :
    startsAt (front ++ x :: xs) second front.length = startsAt (front ++ y :: ys) second front.length := by
  induction front generalizing second with
  | nil => rfl
  | cons z front ih => exact ih _

/-- A zero slot counts as one slot, for its opcode is not 0x18. -/
theorem startsAt_replicate_zero (k : Nat) (x : Slot) (xs : List Slot) :
    startsAt (List.replicate k Slot.zero ++ x :: xs) false k = true := by
  induction k with
  | zero => rfl
  | succ k ih => exact ih

theorem length_slotsBefore (program : List Slot) (pc : Nat) : (slotsBefore program pc).length = pc := by
  simp only [slotsBefore]
  split
  · rw [List.length_append, List.length_take, List.length_replicate]
    omega
  · exact List.length_replicate

/-- The slots that stand before `pc` never make it a second slot. -/
theorem startsAt_slotsBefore (program : List Slot) (pc : Nat) (x : Slot) (xs : List Slot) :
    startsAt (slotsBefore program pc ++ x :: xs) false pc = true := by
  by_cases hkept : startsAt (program.take pc ++ List.replicate (pc - program.length) Slot.zero ++ [Slot.zero]) false pc = true
  · have hfront : slotsBefore program pc = program.take pc ++ List.replicate (pc - program.length) Slot.zero := if_pos hkept
    have hcongr := startsAt_length_congr (slotsBefore program pc) x Slot.zero xs [] false
    rw [length_slotsBefore] at hcongr
    rw [hcongr, hfront, hkept]
  · have hfront : slotsBefore program pc = List.replicate pc Slot.zero := if_neg hkept
    rw [hfront]
    exact startsAt_replicate_zero pc x xs

section

variable (program : List Slot) (pc : Nat) (p : Slot × Slot)

theorem startsAt_placeSlots : startsAt (placeSlots program pc p) false pc = true :=
  startsAt_slotsBefore program pc p.1 _

/-- Behind `pc` stand the two slots that are placed. -/
theorem getElem?_placeSlots_add (j : Nat) :
    (placeSlots program pc p)[pc + j]? = (p.1 :: p.2 :: program.drop (pc + 2))[j]? := by
  rw [placeSlots, List.getElem?_append_right (by rw [length_slotsBefore]; exact Nat.le_add_right pc j),
    length_slotsBefore, Nat.add_sub_cancel_left]

end

/-- The fetch reads the word that is placed (30_encoding.md R51, R61). -/
theorem State.fetch_withFetchWord {s : State} {nbits w : Nat} {i : Instr}
    (hd : decode s.params.hostEndian s.params.strictReserved (tableSlots s.params.hostEndian nbits w).1
      (some (tableSlots s.params.hostEndian nbits w).2) = .ok i)
    (hw : i.wellFormed s.params = true) : (s.withFetchWord nbits w).fetch = .ok i := by
  have hslot := getElem?_placeSlots_add s.program s.pc (tableSlots s.params.hostEndian nbits w)
  refine State.fetch_eq_ok.2 ⟨startsAt_placeSlots s.program s.pc _, _, hslot 0, ?_, hw⟩
  rw [State.withFetchWord_program, State.withFetchWord_pc, hslot 1]
  exact hd

/-- Settles O52: placing changes the program and the result alone, and the next step executes what is fetched. -/
theorem placedInstructionRuns : Obligations.PlacedInstructionRuns := by
  intro s nbits w i hd hw
  refine ⟨?_, fun _ _ => rfl, fun _ => rfl, s.withFetchWord_pc nbits w, s.withFetchWord_frames nbits w⟩
  rw [step, State.withFetchWord_result, State.fetch_withFetchWord hd hw]

/-! ## The end of a run -/

/-- There is no step after the end of a run (60_exceptions.md R286). -/
theorem step_of_result {s : State} {v : Word} (h : s.result = some v) : step s = .refused .runEnded := by
  rw [step, h]

/-- Settles O18: `exit` without a frame sets the result and nothing else. -/
theorem exitEndsTheRun : Obligations.ExitEndsTheRun := by
  intro s v hf hv
  have hx : exec .exit s = .next { s with result := some v } :=
    (commit_eq_next _ _).2 ((s.leaveFunction_eq_ok _).2 ⟨v, hv, .inl ⟨hf, rfl⟩⟩)
  exact ⟨_, hx, rfl, rfl, fun _ _ => rfl, hf, fun _ => rfl, ⟨rfl, rfl, rfl, rfl⟩, ⟨rfl, rfl⟩, ⟨⟨rfl, rfl⟩, rfl, rfl⟩,
    step_of_result rfl⟩

end Sys2Proof.Machine
end

section
/-! SUPPORT. What a helper reads of data memory (70_reset_and_hazards.md R313, R314; 20_memory.md R47): a shared byte as
supplied for the call, any other byte as the program left it, and the same at every read of one call. -/

namespace Sys2Proof.Machine

section

variable {s t : State} {k : HelperKind} {id : Word32} {n : AccessSize} {ea : Word}

/-! ## A helper that writes nothing -/

theorem keepsMemory_of_writesBytes_nil (h : WritesBytes [] s t) : KeepsMemory s t :=
  fun a => h.1 a (List.forall_mem_nil _)

/-- A helper that is defined by an expression alone returns its value (42_jump.md R211). -/
theorem State.callHelper_value_results {e : HelperExpr} {v : Word} (hk : s.helper k id = some (.ret e []))
    (he : e.eval s.helperInput = .ok v) :
    ∃ t, commit (s.callHelper k id) = .next t ∧ HelperReturns v s t ∧ KeepsMemory s t ∧ KeepsAnswers s t := by
  obtain ⟨t, hx, hret, hmem, hans⟩ := State.callHelper_done_results hk (HelperBody.run_ret he (bytes := []) rfl)
  exact ⟨t, hx, hret, keepsMemory_of_writesBytes_nil hmem, hans⟩

/-! ## The bytes of a read -/

/-- The byte supplied for a call is what the call is given (20_memory.md R47; log 33). -/
theorem State.snapshotByte_of_supplied {c : List Host.Cell} {rest : List (List Host.Cell)} {a : Nat} {b : Byte}
    (hs : s.snapshots = c :: rest) (hb : Memory.get c a = some b) : s.snapshotByte a = b := by
  rw [State.snapshotByte, hs, List.headD_cons, hb, Option.getD_some]

/-- A helper is given shared bytes as supplied for the call, other bytes as the program left them
(70_reset_and_hazards.md R314). -/
theorem State.helperByte_eq {b : Nat → Byte}
    (h : (s.Private ea n ∧ ∀ j < n.bytes, s.readByte (byteAddr ea j) = b j) ∨
      (s.Shared ea n ∧ ∃ c rest, s.snapshots = c :: rest ∧ ∀ j < n.bytes, Memory.get c (byteAddr ea j) = some (b j)))
    (j : Nat) (hj : j < n.bytes) : s.helperByte (byteAddr ea j) = b j := by
  obtain ⟨hprivate, hb⟩ | ⟨hshared, c, rest, hc, hb⟩ := h
  · rw [s.helperByte_of_private ea n j hj hprivate, hb j hj]
  · rw [s.helperByte_of_shared ea n j hj hshared, State.snapshotByte_of_supplied hc (hb j hj)]

/-! ## Expressions that read memory -/

variable {x : HelperInput}

/-- A read at the address in a written argument gives the number that the bytes there hold (20_memory.md R33). -/
theorem HelperExpr.eval_load_arg {i : Fin 5} {b : Nat → Byte} (hi : x.args.get i = some ea)
    (hb : ∀ j < n.bytes, x.byte (byteAddr ea j) = b j) :
    ∃ v, (HelperExpr.load n (.arg i)).eval x = .ok v ∧ HoldsValue x.hostEndian n.bytes b v := by
  have hlen : ((List.range n.bytes).map fun j => x.byte (byteAddr ea j)).length = n.bytes := by simp
  have hv := holdsValue_ofBytes x.hostEndian ((List.range n.bytes).map fun j => x.byte (byteAddr ea j))
    (by rw [hlen]; cases n <;> decide) b fun j hj => by
      rw [List.getElem_map, List.getElem_range]
      exact hb j (hlen ▸ hj)
  rw [hlen] at hv
  refine ⟨_, ?_, hv⟩
  simp only [HelperExpr.eval, hi]
  rfl

/-- An expression has one value for one input, so that its difference with itself is 0: what it reads of memory does not change
within the call (70_reset_and_hazards.md R313). -/
theorem HelperExpr.eval_sub_self {e : HelperExpr} (h : ∀ i ∈ e.args, x.args.get i ≠ none) :
    (HelperExpr.op .sub e e).eval x = .ok 0 := by
  obtain ⟨v, hv⟩ := (HelperExpr.eval_isOk x e).2 h
  rw [HelperExpr.eval, hv]
  exact congrArg Except.ok (BitVec.sub_self v)

end

/-- Settles O22: the two definitions write nothing and return the value of their expression for the input of the call. -/
theorem helperMemoryReads : Obligations.HelperMemoryReads := by
  intro s imm p hp
  obtain ⟨k, hx, hk⟩ := helperCall_cases hp
  rw [hx]
  refine ⟨fun n i ea hh hea b hb => ?read, fun e hh hw => ?difference⟩
  case read =>
    obtain ⟨v, hv, hholds⟩ := HelperExpr.eval_load_arg ((s.helperInput_args i).trans hea) (State.helperByte_eq hb)
    obtain ⟨t, hnext, hrest⟩ := State.callHelper_value_results (hk.trans hh) hv
    exact ⟨t, v, hnext, hholds, hrest⟩
  case difference =>
    refine State.callHelper_value_results (hk.trans hh) (HelperExpr.eval_sub_self fun i hi => ?_)
    rw [s.helperInput_args]
    exact hw i hi

end Sys2Proof.Machine
end
